-- ==== Sys2Proof/Word.lean ====
section
/-! DEFINITION. The word types of the ZL24: bytes, two- and four-byte values (R183), and the numbers that name zones,
clients, bundles and banks. -/

namespace Sys2Proof

/-- A byte at either port. -/
abbrev Byte := BitVec 8

/-- A two-byte field: token, term, session id, arrival number (R183). -/
abbrev Half := BitVec 16

/-- A four-byte field: a lease-clock value, a stamp, a generation (R183). -/
abbrev Word := BitVec 32

/-- A zone number, 0 to 127 (R1). -/
abbrev ZoneId := Fin 128

/-- A client slot, 0 to 31 (R1). -/
abbrev Slot := Fin 32

/-- A bundle id, 0 to 63: the number of the bundle's slot (R23). -/
abbrev BundleId := Fin 64

/-- A bank of the catalogue memory, 0 or 1 (R158). -/
abbrev Bank := Fin 2

/-- An address of the supervisor port, 00H to 7FH (R143). -/
abbrev PortAddress := BitVec 7

/-- A request sequence, counted modulo 16 (Table 11-3). -/
abbrev RequestSeq := BitVec 4

end Sys2Proof
end

