-- ==== Sys2Proof/Syntax.lean ====
section
/-! DEFINITION. The commands of the block: one constructor per row of spec/opcode_table.json, in the table's order.

A row is one whole step (95_what_each_step_holds.md). A row's operands are what the outside brings with it: the byte on a line,
the fields of a reply, the level of a pin at the moment it is read. A supervisor command brings none: the row is the write of
EXECUTE, and the command and its arguments are the bytes that stand in the command block (R147; log 3). -/

namespace Sys2Proof

/-- The 69 steps of the part. -/
inductive Instr where
  /-- POWER_ON_RESET (R173). -/
  | powerOnReset
  /-- LINE_RESET (R173): RST is asserted. -/
  | lineReset
  /-- RST_RELEASED (R173). -/
  | rstReleased
  /-- CATALOGUE_LOAD (R162): the load in BOOT ends. -/
  | catalogueLoad
  /-- TICK (R71): a tick ends. -/
  | tick
  /-- LAPSE (R72): the bundle at the head of the expiry queue ends. -/
  | lapse
  /-- WAIT_ALARM_EXAMINATION (R80). -/
  | waitAlarmExamination
  /-- STOPIN_ASSERTED (R180). -/
  | stopinAsserted
  /-- STOPIN_DEASSERTED (R180). -/
  | stopinDeasserted
  /-- CHARACTER_RECEIVED (R114): a good character with its mark bit and its eight data bits. -/
  | characterReceived (mark : Bool) (data : Byte)
  /-- FRAMING_ERROR (R119). -/
  | framingError
  /-- GAP_LIMIT_EXPIRY (R117). -/
  | gapLimitExpiry
  /-- BEGIN_EXCHANGE (R126). -/
  | beginExchange
  /-- TRANSMIT_DONE (R122). -/
  | transmitDone
  /-- REPLY_WINDOW_TIMEOUT (R133). -/
  | replyWindowTimeout
  /-- SEND_ANSWER (R138): the turnaround ends. -/
  | sendAnswer
  /-- IDLE (R136): a valid IDLE reply with its acknowledgement, or none. -/
  | idle (ack : Option Byte)
  /-- MALFORMED_REQUEST (R137): a valid REQUEST reply whose body makes no request. -/
  | malformedRequest (seq : RequestSeq) (ack : Option Byte)
  /-- JOIN (R92). -/
  | join (seq : RequestSeq) (ack : Option Byte) (session : Half)
  /-- LEAVE (R95). -/
  | leave (seq : RequestSeq) (ack : Option Byte)
  /-- ACQUIRE (R30); `wait` is the wait choice, `zones` the zone bytes as received. -/
  | acquire (seq : RequestSeq) (ack : Option Byte) (tag : Byte) (wait : Bool) (term : Half) (zones : List Byte)
  /-- CANCEL (R57). -/
  | cancel (seq : RequestSeq) (ack : Option Byte) (tag : Byte)
  /-- RENEW (R74). -/
  | renew (seq : RequestSeq) (ack : Option Byte) (bundle : Byte) (token : Half) (term : Half)
  /-- RELEASE (R38); the zone byte FFH means ALL (R184). -/
  | release (seq : RequestSeq) (ack : Option Byte) (bundle : Byte) (token : Half) (zone : Byte)
  /-- STATUS (R107). -/
  | status (seq : RequestSeq) (ack : Option Byte)
  /-- SET_ZONE (R7). -/
  | setZone
  /-- SET_CLIENT (R8). -/
  | setClient
  /-- SET_PARAMETERS (R10). -/
  | setParameters
  /-- CLEAR_CATALOGUE (R11). -/
  | clearCatalogue
  /-- REVERT (R12). -/
  | revert
  /-- READ_ZONE_RECORD (R17). -/
  | readZoneRecord
  /-- READ_CLIENT_RECORD (R17). -/
  | readClientRecord
  /-- READ_PARAMETERS (R17). -/
  | readParameters
  /-- FREEZE (R15). -/
  | freeze
  /-- COMMIT (R165); `nvwe` is the level of NVWE at the moment the command is taken (check 4 of R164; log 12). -/
  | commit (nvwe : Bool)
  /-- COMMIT_ERASE_PAGE_DONE (R166): what the 32 bytes of the erased page read (log 11). -/
  | commitErasePageDone (readBack : List Byte)
  /-- COMMIT_PROGRAM_PAGE_DONE (R167): what the programming left in the 32 bytes of the page (log 11). -/
  | commitProgramPageDone (readBack : List Byte)
  /-- COMMIT_MARK_GENERATION_DONE (R168): what the programming left in the four generation bytes. -/
  | commitMarkGenerationDone (readBack : List Byte)
  /-- COMMIT_MARK_MARKER_DONE (R168): what the programming left in the four marker bytes. -/
  | commitMarkMarkerDone (readBack : List Byte)
  /-- NVWE_INACTIVE (R169). -/
  | nvweInactive
  /-- CLOSE_ZONE (R41). -/
  | closeZone
  /-- OPEN_ZONE (R42). -/
  | openZone
  /-- CLEAR_FENCE (R43). -/
  | clearFence
  /-- REVOKE_BUNDLE (R44). -/
  | revokeBundle
  /-- READ_ZONE_STATE (R45). -/
  | readZoneState
  /-- READ_BUNDLE (R46). -/
  | readBundle
  /-- WITHDRAW_REQUEST (R58). -/
  | withdrawRequest
  /-- READ_PENDING (R64). -/
  | readPending
  /-- READ_LEASE_CLOCK (R84). -/
  | readLeaseClock
  /-- BAR_CLIENT (R97). -/
  | barClient
  /-- UNBAR_CLIENT (R98). -/
  | unbarClient
  /-- READ_CLIENT_STATE (R108). -/
  | readClientState
  /-- FETCH_ATTENTION (R155). -/
  | fetchAttention
  /-- START (R177). -/
  | start
  /-- STOP (R178). -/
  | stop
  /-- HOLD (R179). -/
  | hold
  /-- RESUME (R179). -/
  | resume
  /-- RESTART (R182). -/
  | restart
  /-- BAD_COMMAND (R148): a write to EXECUTE with a command code that names no command. -/
  | badCommand
  /-- EXECUTE_OVERRUN (R149): a write to EXECUTE while the mailbox is BUSY. -/
  | executeOverrun
  /-- PUBLISH_RESPONSE (R147). -/
  | publishResponse
  /-- READ_STATUS1 (R149). -/
  | readStatus1
  /-- READ_LEASE_CLOCK_LATCH (R146). -/
  | readLeaseClockLatch
  /-- READ_RESULT_BYTE (R152). -/
  | readResultByte
  /-- WRITE_ALERT_ENABLE (R156). -/
  | writeAlertEnable (value : Byte)
  /-- WRITE_REGISTER (R144): a write of a byte to the transaction's current address. -/
  | writeRegister (value : Byte)
  /-- LINE_RETURNS_TO_1 (R111). -/
  | lineReturnsTo1
  /-- TRANSACTION_BEGIN (R143): SCS goes active; the first byte, or none when it is cut short. -/
  | transactionBegin (first : Option Byte)
  /-- TRANSACTION_END (R143): SCS goes inactive. -/
  | transactionEnd
  deriving DecidableEq, Repr

end Sys2Proof
end

