-- ==== Sys2Proof/Decode.lean ====
section
/-! DEFINITION. The decoding of table words. The block decodes no instruction words: spec/opcode_table.json gives no row any
bits (log 20). The bytes that do stand for commands, the command codes of Table 11-10 and the request kinds of Table 11-5, are
read in Machine/Operands.lean and Machine/Mailbox.lean. -/

namespace Sys2Proof

/-- The command that a word spells by the table's bits: none, since no row has bits (log 20). -/
def decodeTableWord (_nbits _w : Nat) : Option Instr := none

end Sys2Proof
end

