-- ==== Sys2Proof/Machine/Crc.lean ====
section
/-! DEFINITION. The frame CRC (R113) and the image CRC-32 (R159). -/

namespace Sys2Proof.Machine

/-- One bit of the frame CRC: the register shifts left, and the generator 1021H is taken off when a 1 leaves it (R113). -/
def crc16Bit (reg : Half) : Half := if reg.getLsbD 15 then (reg <<< 1) ^^^ 0x1021#16 else reg <<< 1

/-- Eight bits of the frame CRC. -/
def crc16Bits : Nat → Half → Half
  | 0, reg => reg
  | n + 1, reg => crc16Bits n (crc16Bit reg)

/-- One byte enters most significant bit first (R113). -/
def crc16Byte (reg : Half) (b : Byte) : Half := crc16Bits 8 (reg ^^^ (b.zeroExtend 16 <<< 8))

/-- The frame CRC of a list of bytes: the register starts at FFFFH and its final value is the CRC (R113). -/
def crc16 (bytes : List Byte) : Half := bytes.foldl crc16Byte 0xFFFF#16

/-- One bit of the CRC-32 with bytes entering least significant bit first, so that the generator 04C11DB7H stands bit-reversed,
as EDB88320H (R159). -/
def crc32Bit (reg : Word) : Word := if reg.getLsbD 0 then (reg >>> 1) ^^^ 0xEDB88320#32 else reg >>> 1

/-- Eight bits of the CRC-32. -/
def crc32Bits : Nat → Word → Word
  | 0, reg => reg
  | n + 1, reg => crc32Bits n (crc32Bit reg)

/-- One byte enters the CRC-32. -/
def crc32Byte (reg : Word) (b : Byte) : Word := crc32Bits 8 (reg ^^^ b.zeroExtend 32)

/-- The CRC-32: the register starts at FFFFFFFFH and the final value is inverted (R159). -/
def crc32 (bytes : List Byte) : Word := ~~~ bytes.foldl crc32Byte 0xFFFFFFFF#32

end Sys2Proof.Machine
end

