-- ==== Sys2Proof/Machine/Types.lean ====
section
/-! DEFINITION. The records and names of the manual's tables, as plain data. -/

namespace Sys2Proof.Machine

/-! ## The catalogue (Chapter 1) -/

/-- Expiry policy of a zone, and the disposition under which a bundle ends (Table 1-2, R28). -/
inductive ExpiryPolicy where
  | free | fence
  deriving DecidableEq, Repr

/-- A zone record (R2, Table 1-2). -/
structure ZoneRecord where
  enabled : Bool
  capacity : Nat
  cls : Fin 16
  policy : ExpiryPolicy
  maxTerm : Half
  renewalLimit : Byte
  startClosed : Bool
  deriving DecidableEq, Repr

/-- A client record (R3, Table 1-3). Bit n of `permissions` is set when class n is a member (R183). -/
structure ClientRecord where
  enabled : Bool
  address : Nat
  permissions : BitVec 16
  bundleLimit : Nat
  deriving DecidableEq, Repr

/-- The eight link rates, in bit/s (Table 1-4). -/
inductive LinkRate where
  | r9600 | r19200 | r38400 | r57600 | r115200 | r250000 | r500000 | r1000000
  deriving DecidableEq, Repr

/-- The parameter record (R4, Table 1-4). -/
structure Parameters where
  tickPeriod : Nat
  linkRate : LinkRate
  replyWindow : Nat
  missLimit : Nat
  rollCallInterval : Nat
  silenceGrace : Half
  waitAlarm : Half
  autostart : Bool
  deriving DecidableEq, Repr

/-- A catalogue (R1). -/
structure Catalogue where
  zones : Vector ZoneRecord 128
  clients : Vector ClientRecord 32
  params : Parameters
  deriving DecidableEq, Repr

/-! ## Zones, bundles and pending entries (Chapters 2 and 3) -/

/-- A zone runtime record (R19, Table 2-1). -/
structure ZoneState where
  closed : Bool
  holders : List BundleId
  fences : Nat
  deriving DecidableEq, Repr

/-- The derived states of a zone (R21, Table 2-2). -/
inductive DerivedState where
  | free | partly | full | fenced | closed
  deriving DecidableEq, Repr

/-- A bundle record (R23, Table 2-3). Its id is the number of its slot. -/
structure Bundle where
  holder : Slot
  tag : Byte
  token : Half
  term : Half
  deadline : Word
  renews : Byte
  zones : List ZoneId
  deriving DecidableEq, Repr

/-- A pending entry (R48, Table 3-1). -/
structure Entry where
  client : Slot
  tag : Byte
  term : Half
  zones : List ZoneId
  stamp : Word
  arrival : Half
  alarmed : Bool
  deriving DecidableEq, Repr

/-! ## Clients, notices and answers (Chapter 5) -/

/-- The states of a client (R87). -/
inductive ClientState where
  | absent | joined | silent | barred
  deriving DecidableEq, Repr

/-- Reason of a WITHDRAWN notice (Table 5-5). -/
inductive WithdrawReason where
  | supervisor | silence
  deriving DecidableEq, Repr

/-- The contents of a notice by its kind (Table 5-5). Each zone of LAPSED and REVOKED carries its fenced mark. -/
inductive NoticeBody where
  | grant (tag : Byte) (bundle : BundleId) (token : Half) (deadlineLow : Half)
  | lapsed (bundle : BundleId) (tag : Byte) (zones : List (ZoneId × Bool))
  | revoked (bundle : BundleId) (tag : Byte) (zones : List (ZoneId × Bool))
  | withdrawn (tag : Byte) (reason : WithdrawReason)
  | resync
  deriving DecidableEq, Repr

/-- A notice in an outbox, with its sequence number (R101). -/
structure Notice where
  seq : Byte
  body : NoticeBody
  deriving DecidableEq, Repr

/-- How a JOIN that succeeds began or resumed the session (Table 11-7). -/
inductive SessionKind where
  | new | resumed | fresh
  deriving DecidableEq, Repr

/-- One bundle as STATUS reports it (R107). -/
structure StatusBundle where
  bundle : BundleId
  token : Half
  remaining : Half
  zones : List ZoneId
  deriving DecidableEq, Repr

/-- The answers to requests, by result and contents (Tables 11-6 and 11-7). -/
inductive Answer where
  | joined (kind : SessionKind) (bundles : Nat) (pending : Bool) (notices : Nat)
  | left (released : Nat)
  | cancelled
  | renewed (deadlineLow : Half) (renews : Byte)
  | released (remaining : Nat)
  | status (pendingTag : Option Byte) (bundles : List StatusBundle)
  | granted (bundle : BundleId) (token : Half) (deadlineLow : Half)
  | queued (position : Nat)
  | notServing
  | notJoined
  | badZone (zone : Byte)
  | malformed
  | notPermitted (zone : ZoneId)
  | termRange (bound : Half)
  | alreadyHeld (zone : ZoneId)
  | pendingExists
  | clientLimit
  | tableFull
  | unavailable
  | holding
  | wouldDeadlock
  | notFound
  | noSuchBundle
  | badToken
  | notHeld
  | limit (renews : Byte)
  deriving DecidableEq, Repr

/-- An answer with the request sequence it is stored and sent under (R105, R138). -/
structure StoredAnswer where
  seq : RequestSeq
  answer : Answer
  deriving DecidableEq, Repr

/-- A client runtime record (R86, Table 5-1). -/
structure ClientRuntime where
  state : ClientState
  session : Option Half
  misses : Nat
  last : Option StoredAnswer
  outbox : List Notice
  nextNotice : Byte
  deriving DecidableEq, Repr

/-- What a REQUEST asks (Table 11-5), or that its body makes no request (R137). Values stand as received (R184). -/
inductive Request where
  | malformed
  | join (session : Half)
  | leave
  | acquire (tag : Byte) (wait : Bool) (term : Half) (zones : List Byte)
  | cancel (tag : Byte)
  | renew (bundle : Byte) (token : Half) (term : Half)
  | release (bundle : Byte) (token : Half) (zone : Byte)
  | status
  deriving DecidableEq, Repr

/-! ## The lease bus (Chapters 6 and 7) -/

/-- One character of a frame: its mark bit and its data bits (R110). -/
structure LineChar where
  mark : Bool
  data : Byte
  deriving DecidableEq, Repr

/-- A frame as the Link Interface delivers it (R120): the address byte with address field and direction, the kind, the body. -/
structure Frame where
  address : Byte
  kind : Byte
  body : List Byte
  deriving DecidableEq, Repr

/-- Why a frame in assembly was abandoned (Table 6-5). -/
inductive AbandonCause where
  | framing | gap | length | crc | superseded | transmit
  deriving DecidableEq, Repr

/-- The reports of the Link Interface about reception (R121, Table 6-5). -/
inductive Report where
  | frameStart
  | delivered (frame : Frame)
  | abandoned (cause : AbandonCause)
  deriving DecidableEq, Repr

/-- The receiver with its frame assembly buffer (Table 6-3). HEADER is told apart by the character it expects next. -/
inductive Receiver where
  | off
  | hunt
  | headerKind (address : Byte)
  | headerLength (address kind : Byte)
  | body (address kind length : Byte) (bytes : List Byte)
  | check (address kind length : Byte) (bytes : List Byte) (crcHigh : Option Byte)
  | muted
  deriving DecidableEq, Repr

/-- The transmitter (R122): IDLE, or SENDING with the characters of its frame. -/
inductive Transmitter where
  | idle
  | sending (chars : List LineChar)
  deriving DecidableEq, Repr

/-- The part of the exchange record that every stage of an exchange holds (R125). -/
structure Exchange where
  target : Slot
  address : Nat
  discard : Bool
  deriving DecidableEq, Repr

/-- The state of the Exchange Scheduler (R125). `window` is the reply window in Tch read when the POLL ended (R132); `deciding`
tells whether the deciding frame has begun (R133); `sending` whether the ANSWER has been handed to the transmitter (R138). -/
inductive ExchangeState where
  | gap
  | polling (x : Exchange)
  | awaiting (x : Exchange) (window : Nat) (deciding : Bool)
  | answering (x : Exchange) (answer : StoredAnswer) (sending : Bool)
  deriving DecidableEq, Repr

/-! ## The supervisor port (Chapter 8) -/

/-- Kind and subject of an attention entry (Table 8-3). -/
inductive Attention where
  | fenced (zone : ZoneId)
  | silent (client : Slot)
  | returned (client : Slot)
  | resync (client : Slot)
  | waiting (client : Slot)
  | nvFault (bank : Bank)
  deriving DecidableEq, Repr

/-- An entry of the Attention Set (R153). -/
structure AttentionEntry where
  what : Attention
  stamp : Word
  count : Byte
  deriving DecidableEq, Repr

/-- The supervisor results (Table 11-9). -/
inductive Result where
  | doneOk | badCommand | badArgument | wrongMode | frozen | busy | notFound | notQuiescent | uncommitted | nvProtected | nvFailed
  deriving DecidableEq, Repr

/-- The command block and the response block: 32 bytes each (Table 8-1). -/
abbrev Block := Vector Byte 32

/-- The outcome of a command: its result and its contents (R148). The command code is echoed from the command copy. -/
structure Response where
  result : Result
  contents : List Byte
  deriving DecidableEq, Repr

/-- The command mailbox (8.2). BUSY holds the command copy, and the response once the owning block has decided it (R147). -/
inductive Mailbox where
  | idle
  | busy (copy : Block) (decided : Option Response)
  | done
  deriving DecidableEq, Repr

/-- The transaction on the supervisor port (R143): none (SCS inactive); one whose first byte was cut short, which reads and
writes nothing; or one that reads or writes, at its current address. -/
inductive Port where
  | inactive
  | inert
  | reading (address : PortAddress)
  | writing (address : PortAddress)
  deriving DecidableEq, Repr

/-! ## Catalogue memory and modes (Chapters 9 and 10) -/

/-- The conditions of a bank (R160, Table 9-2); a VALID bank with its generation and its catalogue. -/
inductive BankCondition where
  | unmarked
  | valid (generation : Word) (catalogue : Catalogue)
  | corrupt
  deriving DecidableEq, Repr

/-- The commit state (R161). -/
inductive CommitState where
  | none | running | succeeded | failed
  deriving DecidableEq, Repr

/-- The phases of a commit (R161), with the two steps of MARK told apart (R168). -/
inductive CommitPhase where
  | erase | program | markGeneration | markMarker
  deriving DecidableEq, Repr

/-- The commit record (R161, R165). -/
structure CommitRecord where
  target : Bank
  generation : Word
  phase : CommitPhase
  page : Fin 64
  deriving DecidableEq, Repr

/-- The causes with which a commit is refused or fails (Table 11-11). -/
inductive CommitCause where
  | erase | program | nvwe | generation
  deriving DecidableEq, Repr

/-- The operating modes (R172). -/
inductive Mode where
  | boot | config | serving | hold
  deriving DecidableEq, Repr

/-- The kinds of reset (R172). -/
inductive ResetCause where
  | powerOn | line | restart
  deriving DecidableEq, Repr

/-- The start choice (R172). -/
inductive StartChoice where
  | auto | config
  deriving DecidableEq, Repr

end Sys2Proof.Machine
end

