-- ==== Sys2Proof/Machine/Catalogue.lean ====
section
/-! DEFINITION. The default records and the empty catalogue (R5), the reset values of the runtime records (R19, R86), and what
the catalogue's checks ask of a record (R2, R3, R4). -/

namespace Sys2Proof.Machine

/-- Default zone record (Table 1-5). -/
def defaultZone : ZoneRecord :=
  { enabled := false, capacity := 1, cls := 0, policy := .fence, maxTerm := 100#16, renewalLimit := 0#8,
    startClosed := false }

/-- Default client record of slot `c` (Table 1-5): slot 0 at address 1, slot 31 at address 32. -/
def defaultClient (c : Slot) : ClientRecord :=
  { enabled := false, address := c.val + 1, permissions := 0#16, bundleLimit := 4 }

/-- Default parameters (Table 1-4). -/
def defaultParameters : Parameters :=
  { tickPeriod := 10, linkRate := .r115200, replyWindow := 8, missLimit := 3, rollCallInterval := 16,
    silenceGrace := 100#16, waitAlarm := 0#16, autostart := false }

/-- The empty catalogue (R5). -/
def emptyCatalogue : Catalogue :=
  { zones := Vector.replicate 128 defaultZone, clients := Vector.ofFn defaultClient, params := defaultParameters }

/-- A zone runtime record after reset (Table 2-1). -/
def emptyZoneState : ZoneState := { closed := false, holders := [], fences := 0 }

/-- A client runtime record after reset, and when it is brought into use (R86, Table 5-1). -/
def freshClient : ClientRuntime :=
  { state := .absent, session := none, misses := 0, last := none, outbox := [], nextNotice := 0#8 }

/-- The values a zone record may hold (R2, Table 1-2). Class, policy and renewal limit take every value of their types. -/
abbrev ZoneRecord.Valid (r : ZoneRecord) : Prop := 1 ≤ r.capacity ∧ r.capacity ≤ 4 ∧ r.maxTerm ≠ 0#16

/-- The values a client record may hold (R3, Table 1-3). -/
abbrev ClientRecord.Valid (r : ClientRecord) : Prop :=
  1 ≤ r.address ∧ r.address ≤ 62 ∧ 1 ≤ r.bundleLimit ∧ r.bundleLimit ≤ 4

/-- The values the parameter record may hold (R4, Table 1-4). -/
abbrev Parameters.Valid (p : Parameters) : Prop :=
  (1 ≤ p.tickPeriod ∧ p.tickPeriod ≤ 250) ∧ (2 ≤ p.replyWindow ∧ p.replyWindow ≤ 63) ∧
    (1 ≤ p.missLimit ∧ p.missLimit ≤ 15) ∧ (1 ≤ p.rollCallInterval ∧ p.rollCallInterval ≤ 255)

/-- Among the enabled client records no two carry the same bus address (R3). -/
def addressesDistinct (clients : Vector ClientRecord 32) : Bool :=
  (List.finRange 32).all fun c => (List.finRange 32).all fun d =>
    !(decide (c ≠ d) && clients[c].enabled && clients[d].enabled && clients[c].address == clients[d].address)

/-- Every record of the catalogue holds values of its table, and no two enabled clients share an address (R2, R3, R4). -/
def Catalogue.valid (cat : Catalogue) : Bool :=
  cat.zones.toList.all (fun r => decide r.Valid) && cat.clients.toList.all (fun r => decide r.Valid) &&
    decide cat.params.Valid && addressesDistinct cat.clients

end Sys2Proof.Machine
end

