-- ==== Sys2Proof/Machine/State.lean ====
section
/-! DEFINITION. The state of the part: one structure per block of Table 0-1, and the queue of the commands that wait. -/

namespace Sys2Proof.Machine

/-- Why the part would stop with a fault. It has no constructor: the manual names no event after which the part stops. What it
calls a fault is an attention, a refused result, an answer or a failed exchange, and each of them is an effect on State. -/
inductive Fault where
  deriving DecidableEq, Repr

/-- Why a command would have no meaning. -/
inductive Refusal where
  /-- Raised by exec's arm of a row that has no meaning yet; safe (a refused command proves nothing about the part). No arm
  raises it. -/
  | notModelled (mnemonic : String)
  deriving DecidableEq, Repr

/-- Mode Control (Table 10-1), with the two lines it watches (R173, R180). -/
structure ModeControl where
  mode : Mode
  holdCommand : Bool
  holdLine : Bool
  cause : ResetCause
  startChoice : StartChoice
  /-- STOPIN is asserted. -/
  stopin : Bool
  /-- RST is asserted. -/
  rst : Bool
  deriving DecidableEq, Repr

/-- The Catalogue Unit (R1, R13, R15). -/
structure CatalogueUnit where
  catalogue : Catalogue
  dirty : Bool
  freeze : Bool
  deriving DecidableEq, Repr

/-- The Catalogue Memory (Table 9-3). `nv` holds both banks; `active` is the active bank with its generation. -/
structure CatalogueMemory where
  nv : List Host.Cell
  active : Option (Bank × Word)
  commitState : CommitState
  commit : Option CommitRecord
  deriving DecidableEq, Repr

/-- The Grant Engine: zone state table, bundle table, token counter, and the pending list with its arrival counter
(R19, R23, R25, R48, R49). -/
structure GrantEngine where
  zones : Vector ZoneState 128
  bundles : Vector (Option Bundle) 64
  tokenCounter : Half
  entries : List Entry
  arrivalCounter : Half
  deriving DecidableEq, Repr

/-- The Lease Timer (Table 4-1). `tick` is the period, in ms, of the tick in progress, none while the clock is stopped (R67).
`lapseOpen` and `alarmOpen` are the model's: the examinations that the last tick opened and that are not yet ended (log 8). -/
structure LeaseTimer where
  clock : Word
  tick : Option Nat
  queue : List BundleId
  lapseOpen : Bool
  alarmOpen : Bool
  deriving DecidableEq, Repr

/-- The Attention Set (R153), oldest entry first. -/
structure AttentionSet where
  entries : List AttentionEntry
  overflow : Bool
  deriving DecidableEq, Repr

/-- The Supervisor Interface (Tables 8-1 and 8-4). `sdo` is the byte last shifted out in the transaction, none when none has been. SDO
is then driven all the same while SCS is active (State.sdoDriven), and the manual gives no value for it (DESIGN CHOICE, log 16). -/
structure SupervisorInterface where
  port : Port
  sdo : Option Byte
  mailbox : Mailbox
  commandBlock : Block
  responseBlock : Block
  overrun : Bool
  attentionSwitch : Bool
  completionSwitch : Bool
  latch : Word
  deriving DecidableEq, Repr

/-- The Link Interface (Table 6-6). `lineHeld`: after a framing error the line has not yet been sampled at 1 (R111); a
transmission keeps it and a reset clears it (DESIGN CHOICES, log 17). -/
structure LinkInterface where
  receiver : Receiver
  lineHeld : Bool
  transmitter : Transmitter
  deriving DecidableEq, Repr

/-- The Exchange Scheduler (Table 7-1). -/
structure ExchangeScheduler where
  exchange : ExchangeState
  rotationPointer : Nat
  rollCallPointer : Nat
  rollCallCounter : Nat
  deriving DecidableEq, Repr

/-- The whole part. `freeCount` numbers the free bytes (log 10); `pending` is the queue of waiting commands, first in first
out (log 1). -/
structure State where
  mc : ModeControl
  cu : CatalogueUnit
  cm : CatalogueMemory
  ge : GrantEngine
  lt : LeaseTimer
  ct : Vector ClientRuntime 32
  attn : AttentionSet
  si : SupervisorInterface
  li : LinkInterface
  es : ExchangeScheduler
  freeCount : Nat
  pending : List Instr
  deriving DecidableEq, Repr

/-- The part right after a power-on reset: Tables 1-7, 2-8, 3-5, 4-4, 5-6, 6-6, 7-5, 8-4, 9-6 and 10-1. The working catalogue
(log 14), the banks of a part from stock (log 9), the two lines (log 13) and that the wait for the line after a framing error ends with
a reset (`lineHeld` clear, log 17) are DESIGN CHOICES. -/
def State.reset : State :=
  { mc := { mode := .boot, holdCommand := false, holdLine := false, cause := .powerOn, startChoice := .auto,
            stopin := false, rst := false }
    cu := { catalogue := emptyCatalogue, dirty := false, freeze := false }
    cm := { nv := [], active := none, commitState := .none, commit := none }
    ge := { zones := Vector.replicate 128 emptyZoneState, bundles := Vector.replicate 64 none, tokenCounter := 1#16,
            entries := [], arrivalCounter := 0#16 }
    lt := { clock := 0#32, tick := none, queue := [], lapseOpen := false, alarmOpen := false }
    ct := Vector.replicate 32 freshClient
    attn := { entries := [], overflow := false }
    si := { port := .inactive, sdo := none, mailbox := .idle, commandBlock := Vector.replicate 32 0#8,
            responseBlock := Vector.replicate 32 0#8, overrun := false, attentionSwitch := false,
            completionSwitch := false, latch := 0#32 }
    li := { receiver := .off, lineHeld := false, transmitter := .idle }
    es := { exchange := .gap, rotationPointer := 1, rollCallPointer := 1, rollCallCounter := 0 }
    freeCount := 0
    pending := [] }

end Sys2Proof.Machine
end

