-- ==== Sys2Proof/Machine/Flags.lean ====
section
/-! DEFINITION. What is worked out from State and stored nowhere: comparisons of clock values (R68), the derived state of a zone
(R21), records in use (R86), STATUS0 and STATUS1 (Table 11-8), ALERT (R156), SDO (R143), LBDE and LBTX (R122), the character count
(R114). -/

namespace Sys2Proof.Machine

/-! ## Clock values (R68) -/

/-- A deadline `d` has passed with the clock at `now` (R68). -/
def hasPassed (now d : Word) : Bool := decide ((now - d).toNat < 2 ^ 31)

/-- Deadline `d1` is earlier than `d2` (R68). -/
def isEarlier (d1 d2 : Word) : Bool := decide (1 ≤ (d2 - d1).toNat ∧ (d2 - d1).toNat ≤ 2 ^ 31 - 1)

/-- Remaining ticks of a deadline (R68). -/
def remainingTicks (now d : Word) : Word := if hasPassed now d then 0#32 else d - now

/-- Waiting time of a pending entry (R68). -/
def waitingTime (now stamp : Word) : Word := now - stamp

/-- The low 16 bits of a clock value (R183). -/
def lowHalf (w : Word) : Half := w.truncate 16

/-! ## Zones, bundles and entries -/

/-- The zone can take one more unit (R20). -/
def State.zoneAvailable (s : State) (z : ZoneId) : Bool :=
  !s.ge.zones[z].closed && s.ge.zones[z].fences == 0 &&
    decide (s.ge.zones[z].holders.length < s.cu.catalogue.zones[z].capacity)

/-- The derived state of a zone: the first line of Table 2-2 whose condition holds (R21). -/
def State.derivedState (s : State) (z : ZoneId) : DerivedState :=
  let r := s.ge.zones[z]
  if r.closed then .closed
  else if 1 ≤ r.fences then .fenced
  else if r.holders.length = s.cu.catalogue.zones[z].capacity then .full
  else if 1 ≤ r.holders.length then .partly
  else .free

/-- The lowest-numbered empty slot of the bundle table (R24). -/
def State.freeSlot (s : State) : Option BundleId := (List.finRange 64).find? fun b => s.ge.bundles[b].isNone

/-- The ids of the live bundles, ascending. -/
def State.liveBundles (s : State) : List BundleId := (List.finRange 64).filter fun b => s.ge.bundles[b].isSome

/-- The bundle in slot `b` is held by client `c`. -/
def State.holdsBundle (s : State) (c : Slot) (b : BundleId) : Bool :=
  match s.ge.bundles[b] with
  | some x => x.holder == c
  | none => false

/-- The bundles of a client, in ascending order of bundle id. -/
def State.bundlesOf (s : State) (c : Slot) : List BundleId := (List.finRange 64).filter fun b => s.holdsBundle c b

/-- The zones of the bundle in slot `b`; none when the slot is empty. -/
def State.zonesOfBundle (s : State) (b : BundleId) : List ZoneId :=
  match s.ge.bundles[b] with
  | some x => x.zones
  | none => []

/-- The client holds the zone in one of its bundles (check 6 of ACQUIRE, R34). -/
def State.clientHoldsZone (s : State) (c : Slot) (z : ZoneId) : Bool :=
  (s.bundlesOf c).any fun b => decide (z ∈ s.zonesOfBundle b)

/-- The pending entry of a client (R48). -/
def State.entryOf (s : State) (c : Slot) : Option Entry := s.ge.entries.find? fun e => e.client == c

/-- A pending entry names the zone (R35). -/
def State.namedByEntry (s : State) (z : ZoneId) : Bool := s.ge.entries.any fun e => decide (z ∈ e.zones)

/-- The deadline of the bundle in slot `b`. -/
def State.deadlineOf (s : State) (b : BundleId) : Word :=
  match s.ge.bundles[b] with
  | some x => x.deadline
  | none => 0#32

/-- The bundle at the head of the expiry queue, when its deadline has passed (R71). -/
def State.passedHead (s : State) : Option BundleId :=
  match s.lt.queue with
  | [] => none
  | b :: _ => if hasPassed s.lt.clock (s.deadlineOf b) then some b else none

/-- The number of zones with a fence (R178). -/
def State.fencedZones (s : State) : Nat := s.ge.zones.toList.countP fun z => decide (1 ≤ z.fences)

/-- The expiry policy of each zone (Table 1-2). -/
def State.policyOf (s : State) (z : ZoneId) : ExpiryPolicy := s.cu.catalogue.zones[z].policy

/-! ## Clients and exchanges -/

/-- A client runtime record is in use while its catalogue record is enabled (R86). -/
def State.inUse (s : State) (c : Slot) : Bool := s.cu.catalogue.clients[c].enabled

/-- The bus address of a client. -/
def State.addressOf (s : State) (c : Slot) : Nat := s.cu.catalogue.clients[c].address

/-- The rotation set (R127). -/
def State.rotationSet (s : State) : List Slot :=
  (List.finRange 32).filter fun c => s.inUse c && s.ct[c].state == .joined

/-- The roll-call set (R127). -/
def State.rollCallSet (s : State) : List Slot :=
  (List.finRange 32).filter fun c => s.inUse c && (s.ct[c].state == .absent || s.ct[c].state == .silent)

/-- The client the exchange was begun with is still the one a reply comes from: its record is in use at the address polled, it
is not BARRED, and the record carries no discard mark (R135, R140). -/
def State.exchangeStands (s : State) (x : Exchange) : Bool :=
  !x.discard && s.inUse x.target && s.addressOf x.target == x.address && !(s.ct[x.target].state == .barred)

/-! ## Modes -/

/-- The mode is SERVING or HOLD. -/
def State.inService (s : State) : Bool := s.mc.mode == .serving || s.mc.mode == .hold

/-! ## Lines and window bytes -/

/-- ALERT is active, driven low (R156). -/
def State.alertActive (s : State) : Bool :=
  (s.si.attentionSwitch && !s.attn.entries.isEmpty) || (s.si.completionSwitch && s.si.mailbox == .done)

/-- LBDE is active while a frame is being sent (R122). -/
def State.lbdeActive (s : State) : Bool := !(s.li.transmitter == .idle)

/-- The bits of a character in the order in which they stand on the line (R110): the start bit at 0, the data bits with the least
significant bit first, the mark bit, and the stop bit at 1. -/
def LineChar.bits (c : LineChar) : List Bool := false :: (List.range 8).map c.data.getLsbD ++ [c.mark, true]

/-- The levels of LBTX, one a bit time, from the moment the transmitter enters its state (R122, Table 6-6). In IDLE the line rests at 1.
In SENDING it stays at 1 for one bit time and then carries the characters back to back. How far a frame has come is timing (log 18). -/
def State.lbtxLevels (s : State) : List Bool :=
  match s.li.transmitter with
  | .idle => [true]
  | .sending chars => true :: chars.flatMap LineChar.bits

/-- SDO is driven while SCS is active, which is while a transaction is in progress, and is at high impedance otherwise (R143). -/
def State.sdoDriven (s : State) : Bool := !(s.si.port == .inactive)

/-- The character count of the frame in assembly (R114, Table 6-3). -/
def Receiver.count : Receiver → Nat
  | .off | .hunt | .muted => 0
  | .headerKind _ => 1
  | .headerLength _ _ => 2
  | .body _ _ _ bytes => 3 + bytes.length
  | .check _ _ _ bytes none => 3 + bytes.length
  | .check _ _ _ bytes (some _) => 4 + bytes.length

/-- A frame is in assembly: HEADER, BODY or CHECK (Table 6-3). -/
def Receiver.inFrame : Receiver → Bool
  | .off | .hunt | .muted => false
  | .headerKind _ | .headerLength _ _ | .body _ _ _ _ | .check _ _ _ _ _ => true

/-- Mode bits of STATUS0 (Table 11-8). -/
def modeBits : Mode → Byte
  | .boot => 0#8
  | .config => 1#8
  | .serving => 2#8
  | .hold => 3#8

/-- A flag at a bit position of a status byte. -/
def flagBit (f : Bool) (i : Nat) : Byte := if f then 1#8 <<< i else 0#8

/-- STATUS0 (Table 11-8). -/
def State.status0 (s : State) : Byte :=
  modeBits s.mc.mode ||| flagBit s.mc.holdCommand 4 ||| flagBit s.mc.holdLine 5

/-- Mailbox bits of STATUS1. -/
def mailboxBits : Mailbox → Byte
  | .idle => 0#8
  | .busy _ _ => 1#8
  | .done => 2#8

/-- Commit-state bits of STATUS1. -/
def commitBits : CommitState → Byte
  | .none => 0#8
  | .running => 4#8
  | .succeeded => 8#8
  | .failed => 12#8

/-- STATUS1 (Table 11-8). -/
def State.status1 (s : State) : Byte :=
  mailboxBits s.si.mailbox ||| commitBits s.cm.commitState ||| flagBit s.cu.freeze 4 ||| flagBit s.cu.dirty 5 |||
    flagBit s.si.overrun 6 ||| flagBit s.attn.overflow 7

/-- The reset-cause byte (Table 11-8). -/
def causeByte : ResetCause → Byte
  | .powerOn => 1#8
  | .line => 2#8
  | .restart => 3#8

/-- The alert-enable byte (Table 11-8). -/
def State.alertEnableByte (s : State) : Byte := flagBit s.si.attentionSwitch 0 ||| flagBit s.si.completionSwitch 1

/-- Byte `i` of a four-byte value, most significant byte first (R183). -/
def wordByte (w : Word) (i : Nat) : Byte := (w >>> (8 * (3 - i))).truncate 8

/-- The value of a byte of the supervisor port as a read shifts it out (R144, Table 11-8). The lease-clock byte at 04H comes from
the copy that its own read takes (R146). Unassigned bytes read 00H. -/
def State.windowByte (s : State) (a : PortAddress) : Byte :=
  if a = 0x00#7 then s.status0
  else if a = 0x01#7 then s.status1
  else if a = 0x02#7 then causeByte s.mc.cause
  else if a = 0x03#7 then BitVec.ofNat 8 s.attn.entries.length
  else if a = 0x04#7 then wordByte s.lt.clock 0
  else if a.toNat < 0x08 then wordByte s.si.latch (a.toNat - 4)
  else if a = 0x08#7 then s.alertEnableByte
  else if a.toNat < 0x29 then s.si.commandBlock.toList.getD (a.toNat - 0x09) 0#8
  else if a = 0x29#7 then 0#8
  else if a.toNat < 0x4A then s.si.responseBlock.toList.getD (a.toNat - 0x2A) 0#8
  else 0#8

end Sys2Proof.Machine
end

