-- ==== Sys2Proof/Machine/Operands.lean ====
section
/-! DEFINITION. The byte layouts of Chapter 11: how fields, records, requests, answers, notices, frames and responses are
written as bytes and read from them (R183, R184, R185), and the catalogue image of a bank (R159). -/

namespace Sys2Proof.Machine

/-! ## Common encoding (R183) -/

/-- A two-byte field, most significant byte first. -/
def halfBytes (h : Half) : List Byte := [(h >>> 8).truncate 8, h.truncate 8]

/-- A four-byte field, most significant byte first. -/
def wordBytes (w : Word) : List Byte := [wordByte w 0, wordByte w 1, wordByte w 2, wordByte w 3]

/-- Two received bytes as a field. -/
def halfOf (hi lo : Byte) : Half := hi ++ lo

/-- Four stored bytes as a field. -/
def wordOf (b3 b2 b1 b0 : Byte) : Word := (b3 ++ b2) ++ (b1 ++ b0)

/-- A number sent in one byte. -/
def numByte (n : Nat) : Byte := BitVec.ofNat 8 n

/-- A flag as the part sends it. -/
def flagByte (f : Bool) : Byte := if f then 1#8 else 0#8

/-- A received flag: only bit 0 is read. -/
def readFlag (b : Byte) : Bool := b.getLsbD 0

/-- A zone byte, when it names a zone 0 to 127. -/
def zoneOfByte (b : Byte) : Option ZoneId := if h : b.toNat < 128 then some ⟨b.toNat, h⟩ else none

/-- A slot byte, when it names a slot 0 to 31. -/
def slotOfByte (b : Byte) : Option Slot := if h : b.toNat < 32 then some ⟨b.toNat, h⟩ else none

/-- A bundle-id byte, when it lies in 0 to 63. -/
def bundleOfByte (b : Byte) : Option BundleId := if h : b.toNat < 64 then some ⟨b.toNat, h⟩ else none

/-- An expiry policy or disposition byte: 00H FREE, 01H FENCE, nothing else. -/
def policyOfByte (b : Byte) : Option ExpiryPolicy :=
  if b = 0x00#8 then some .free else if b = 0x01#8 then some .fence else none

/-- The byte of an expiry policy. -/
def policyByte : ExpiryPolicy → Byte
  | .free => 0x00#8
  | .fence => 0x01#8

/-- The start choice byte of RESTART: 00H AUTO, 01H CONFIG, nothing else. -/
def startChoiceOfByte (b : Byte) : Option StartChoice :=
  if b = 0x00#8 then some .auto else if b = 0x01#8 then some .config else none

/-- A zone with its fenced mark in bit 7. -/
def markedZoneByte (z : ZoneId × Bool) : Byte := numByte z.1.val ||| flagBit z.2 7

/-! ## Records (Table 11-12) -/

/-- Link rate codes. -/
def linkRateByte : LinkRate → Byte
  | .r9600 => 0#8
  | .r19200 => 1#8
  | .r38400 => 2#8
  | .r57600 => 3#8
  | .r115200 => 4#8
  | .r250000 => 5#8
  | .r500000 => 6#8
  | .r1000000 => 7#8

/-- The link rate of a code, when it is one of the eight. -/
def linkRateOfByte (b : Byte) : Option LinkRate :=
  if b = 0#8 then some .r9600 else if b = 1#8 then some .r19200 else if b = 2#8 then some .r38400
  else if b = 3#8 then some .r57600 else if b = 4#8 then some .r115200 else if b = 5#8 then some .r250000
  else if b = 6#8 then some .r500000 else if b = 7#8 then some .r1000000 else none

/-- Zone record, 8 bytes. -/
def zoneRecordBytes (r : ZoneRecord) : List Byte :=
  [flagByte r.enabled, numByte r.capacity, numByte r.cls.val, policyByte r.policy] ++ halfBytes r.maxTerm ++
    [r.renewalLimit, flagByte r.startClosed]

/-- Client record, 5 bytes. -/
def clientRecordBytes (r : ClientRecord) : List Byte :=
  [flagByte r.enabled, numByte r.address] ++ halfBytes r.permissions ++ [numByte r.bundleLimit]

/-- Parameter record, 10 bytes. -/
def parameterBytes (p : Parameters) : List Byte :=
  [numByte p.tickPeriod, linkRateByte p.linkRate, numByte p.replyWindow, numByte p.missLimit, numByte p.rollCallInterval] ++
    halfBytes p.silenceGrace ++ halfBytes p.waitAlarm ++ [flagByte p.autostart]

/-- A zone record read from bytes, when every field is a value of Table 1-2 (R7). -/
def parseZoneRecord : List Byte → Option ZoneRecord
  | en :: cap :: cl :: pol :: t1 :: t0 :: lim :: sc :: _ =>
    match policyOfByte pol with
    | none => none
    | some p =>
      if h : cl.toNat < 16 then
        let r : ZoneRecord :=
          { enabled := readFlag en, capacity := cap.toNat, cls := ⟨cl.toNat, h⟩, policy := p, maxTerm := halfOf t1 t0,
            renewalLimit := lim, startClosed := readFlag sc }
        if r.Valid then some r else none
      else none
  | _ => none

/-- A client record read from bytes, when every field is a value of Table 1-3 (R8). -/
def parseClientRecord : List Byte → Option ClientRecord
  | en :: ad :: p1 :: p0 :: lim :: _ =>
    let r : ClientRecord :=
      { enabled := readFlag en, address := ad.toNat, permissions := halfOf p1 p0, bundleLimit := lim.toNat }
    if r.Valid then some r else none
  | _ => none

/-- A parameter record read from bytes, when every field is a value of Table 1-4 (R10). -/
def parseParameters : List Byte → Option Parameters
  | tp :: rate :: rw :: ml :: rc :: g1 :: g0 :: w1 :: w0 :: au :: _ =>
    match linkRateOfByte rate with
    | none => none
    | some r =>
      let p : Parameters :=
        { tickPeriod := tp.toNat, linkRate := r, replyWindow := rw.toNat, missLimit := ml.toNat, rollCallInterval := rc.toNat,
          silenceGrace := halfOf g1 g0, waitAlarm := halfOf w1 w0, autostart := readFlag au }
      if p.Valid then some p else none
  | _ => none

/-! ## The image of a bank (R159) -/

/-- The 1194 catalogue bytes of an image. -/
def catalogueBytes (cat : Catalogue) : List Byte :=
  cat.zones.toList.flatMap zoneRecordBytes ++ cat.clients.toList.flatMap clientRecordBytes ++ parameterBytes cat.params

/-- The CRC-32 of an image: over the catalogue bytes and the four generation bytes. -/
def imageCrc (catBytes : List Byte) (generation : Word) : Word := crc32 (catBytes ++ wordBytes generation)

/-- The 2016 bytes of the image area: the catalogue, bytes that are not programmed, and the CRC-32 in the last four. -/
def imageBytes (cat : Catalogue) (generation : Word) : List Byte :=
  catalogueBytes cat ++ List.replicate 818 0xFF#8 ++ wordBytes (imageCrc (catalogueBytes cat) generation)

/-- The share of the image that page `page` of the image area receives (R167). -/
def imagePage (cat : Catalogue) (generation : Word) (page : Nat) : List Byte :=
  ((imageBytes cat generation).drop (32 * page)).take 32

/-- The valid marker, in bytes 4 to 7 of the marker page (R159). -/
def validMarker : List Byte := [0xA5#8, 0x5A#8, 0xC3#8, 0x3C#8]

/-- `n` records of `size` bytes each, read with `parse`; none when one of them is not acceptable. -/
def parseRecords {α : Type} (size : Nat) (parse : List Byte → Option α) : Nat → List Byte → Option (List α)
  | 0, _ => some []
  | n + 1, bytes =>
    match parse (bytes.take size), parseRecords size parse n (bytes.drop size) with
    | some r, some rs => some (r :: rs)
    | _, _ => none

/-- A list of the right length as a table. -/
def tableOfList {α : Type} (n : Nat) (l : List α) : Option (Vector α n) :=
  if h : l.length = n then some ⟨⟨l⟩, h⟩ else none

/-- The catalogue stored in 1194 bytes, when every field is one that the edit commands would accept and no two enabled client
records share a bus address (step 2 of R160). -/
def parseCatalogue (bytes : List Byte) : Option Catalogue :=
  match (parseRecords 8 parseZoneRecord 128 bytes).bind (tableOfList 128),
      (parseRecords 5 parseClientRecord 32 (bytes.drop 1024)).bind (tableOfList 32),
      parseParameters (bytes.drop 1184) with
  | some zones, some clients, some params =>
    if addressesDistinct clients then some { zones := zones, clients := clients, params := params } else none
  | _, _, _ => none

/-! ## Requests (R184, Tables 11-3 and 11-5) -/

/-- What the bytes of a REQUEST body from byte 2 onward ask. -/
def parseRequest : List Byte → Request
  | [] => .malformed
  | kind :: args =>
    if kind = 0x01#8 then
      match args with
      | [s1, s0] => .join (halfOf s1 s0)
      | _ => .malformed
    else if kind = 0x02#8 then (if args = [] then .leave else .malformed)
    else if kind = 0x03#8 then
      match args with
      | tag :: w :: t1 :: t0 :: n :: zones =>
        if n.toNat ≤ 6 ∧ zones.length = n.toNat then .acquire tag (readFlag w) (halfOf t1 t0) zones else .malformed
      | _ => .malformed
    else if kind = 0x04#8 then
      match args with
      | [tag] => .cancel tag
      | _ => .malformed
    else if kind = 0x05#8 then
      match args with
      | [b, k1, k0, t1, t0] => .renew b (halfOf k1 k0) (halfOf t1 t0)
      | _ => .malformed
    else if kind = 0x06#8 then
      match args with
      | [b, k1, k0, z] => .release b (halfOf k1 k0) z
      | _ => .malformed
    else if kind = 0x07#8 then (if args = [] then .status else .malformed)
    else .malformed

/-- The acknowledgement field of a REQUEST body (Table 11-3). -/
def readAck (b0 b1 : Byte) : Option Byte := if b0.getLsbD 7 then some b1 else none

/-! ## Answers (Tables 11-6 and 11-7) -/

/-- One bundle of a STATUS answer. -/
def statusBundleBytes (b : StatusBundle) : List Byte :=
  [numByte b.bundle.val] ++ halfBytes b.token ++ halfBytes b.remaining ++ [numByte b.zones.length] ++
    b.zones.map fun z => numByte z.val

/-- The session-kind byte of a JOIN answer. -/
def sessionKindByte : SessionKind → Byte
  | .new => 1#8
  | .resumed => 2#8
  | .fresh => 3#8

/-- Result code and contents of an answer. -/
def answerBytes : Answer → List Byte
  | .joined kind bundles pending notices =>
    [0x00#8, sessionKindByte kind, numByte bundles, flagByte pending, numByte notices]
  | .left released => [0x00#8, numByte released]
  | .cancelled => [0x00#8]
  | .renewed dl n => [0x00#8] ++ halfBytes dl ++ [n]
  | .released remaining => [0x00#8, numByte remaining]
  | .status tag bundles =>
    [0x00#8, flagByte tag.isSome, tag.getD 0#8, numByte bundles.length] ++ bundles.flatMap statusBundleBytes
  | .granted b token dl => [0x01#8, numByte b.val] ++ halfBytes token ++ halfBytes dl
  | .queued position => [0x02#8, numByte position]
  | .notServing => [0x10#8]
  | .notJoined => [0x11#8]
  | .badZone z => [0x12#8, z]
  | .malformed => [0x13#8]
  | .notPermitted z => [0x14#8, numByte z.val]
  | .termRange bound => [0x15#8] ++ halfBytes bound
  | .alreadyHeld z => [0x16#8, numByte z.val]
  | .pendingExists => [0x17#8]
  | .clientLimit => [0x18#8]
  | .tableFull => [0x19#8]
  | .unavailable => [0x1A#8]
  | .holding => [0x1B#8]
  | .wouldDeadlock => [0x1C#8]
  | .notFound => [0x1D#8]
  | .noSuchBundle => [0x1E#8]
  | .badToken => [0x1F#8]
  | .notHeld => [0x20#8]
  | .limit n => [0x21#8, n]

/-- The body of an ANSWER frame: the request sequence echoed, the result, the contents (11.2). -/
def answerBody (a : StoredAnswer) : List Byte := a.seq.zeroExtend 8 :: answerBytes a.answer

/-! ## Notices and POLL (Tables 11-3 and 11-4) -/

/-- The reason byte of WITHDRAWN. -/
def reasonByte : WithdrawReason → Byte
  | .supervisor => 1#8
  | .silence => 2#8

/-- Kind code and contents of a notice. -/
def noticeBodyBytes : NoticeBody → List Byte
  | .grant tag b token dl => [0x01#8, tag, numByte b.val] ++ halfBytes token ++ halfBytes dl
  | .lapsed b tag zones => [0x02#8, numByte b.val, tag, numByte zones.length] ++ zones.map markedZoneByte
  | .revoked b tag zones => [0x03#8, numByte b.val, tag, numByte zones.length] ++ zones.map markedZoneByte
  | .withdrawn tag reason => [0x04#8, tag, reasonByte reason]
  | .resync => [0x05#8]

/-- A notice as a POLL carries it: sequence, kind code, contents. -/
def noticeBytes (n : Notice) : List Byte := n.seq :: noticeBodyBytes n.body

/-- The body of a POLL: the clock's low 16 bits, then the notice, when one is carried (R131). -/
def pollBody (clock : Word) (notice : Option Notice) : List Byte :=
  halfBytes (lowHalf clock) ++ (match notice with | some n => noticeBytes n | none => [])

/-! ## Frames (R112, Tables 11-1 and 11-2) -/

/-- Frame kind codes. -/
def kindPoll : Byte := 0x01#8
/-- The code of ANSWER. -/
def kindAnswer : Byte := 0x02#8
/-- The code of IDLE. -/
def kindIdle : Byte := 0x11#8
/-- The code of REQUEST. -/
def kindRequest : Byte := 0x12#8

/-- The address byte of a frame from the part: direction bit 7 set, the address field in bits 5 to 0. -/
def addressByteFromPart (address : Nat) : Byte := 0x80#8 ||| (numByte address &&& 0x3F#8)

/-- The address field of a received address byte. -/
def addressField (b : Byte) : Nat := (b &&& 0x3F#8).toNat

/-- The direction of a received address byte is that of the part. -/
def fromPart (b : Byte) : Bool := b.getLsbD 7

/-- The bytes the frame CRC is computed over: address character, kind, length, body (R113). -/
def frameCrcBytes (address kind : Byte) (body : List Byte) : List Byte := address :: kind :: numByte body.length :: body

/-- The characters of a frame as the transmitter sends them (R122): the address character with mark bit 1, then kind, length,
body and the two CRC characters, high byte first, with mark bit 0. -/
def frameChars (address kind : Byte) (body : List Byte) : List LineChar :=
  { mark := true, data := address } ::
    ((kind :: numByte body.length :: body) ++ halfBytes (crc16 (frameCrcBytes address kind body))).map
      fun b => { mark := false, data := b }

/-! ## Command and response blocks (R185, Tables 11-9 to 11-12) -/

/-- The supervisor result codes (Table 11-9). -/
def resultByte : Result → Byte
  | .doneOk => 0x01#8
  | .badCommand => 0x02#8
  | .badArgument => 0x03#8
  | .wrongMode => 0x04#8
  | .frozen => 0x05#8
  | .busy => 0x06#8
  | .notFound => 0x07#8
  | .notQuiescent => 0x08#8
  | .uncommitted => 0x09#8
  | .nvProtected => 0x0A#8
  | .nvFailed => 0x0B#8

/-- 32 bytes from a list: bytes beyond the list are 00H, bytes beyond 32 are dropped. -/
def blockOfList (l : List Byte) : Block := ⟨⟨(l ++ List.replicate 32 0#8).take 32⟩, by simp⟩

/-- The response block of a response: result byte, command code echoed, contents, then 00H (R148). -/
def responseBlockOf (code : Byte) (r : Response) : Block := blockOfList (resultByte r.result :: code :: r.contents)

/-- The command code of a command block (Table 11-8). -/
def blockCode (b : Block) : Byte := b[0]

/-- Argument byte `i` of a command block, counted from its byte 1. -/
def blockArg (b : Block) (i : Nat) : Byte := b.toList.getD (i + 1) 0#8

/-- The argument bytes of a command block from argument byte `i` on. -/
def blockArgs (b : Block) (i : Nat) : List Byte := b.toList.drop (i + 1)

/-- Derived zone state codes (Table 11-12). -/
def derivedStateByte : DerivedState → Byte
  | .free => 0#8
  | .partly => 1#8
  | .full => 2#8
  | .fenced => 3#8
  | .closed => 4#8

/-- Client state codes (Table 11-12). -/
def clientStateByte : ClientState → Byte
  | .absent => 0#8
  | .joined => 1#8
  | .silent => 2#8
  | .barred => 3#8

/-- Attention kind codes (Table 11-12). -/
def attentionKindByte : Attention → Byte
  | .fenced _ => 1#8
  | .silent _ => 2#8
  | .returned _ => 3#8
  | .resync _ => 4#8
  | .waiting _ => 5#8
  | .nvFault _ => 6#8

/-- Attention subject bytes (Table 11-12). -/
def attentionSubjectByte : Attention → Byte
  | .fenced z => numByte z.val
  | .silent c => numByte c.val
  | .returned c => numByte c.val
  | .resync c => numByte c.val
  | .waiting c => numByte c.val
  | .nvFault b => numByte b.val

/-- Commit cause codes (Table 11-11). -/
def commitCauseByte : CommitCause → Byte
  | .erase => 1#8
  | .program => 2#8
  | .nvwe => 3#8
  | .generation => 4#8

end Sys2Proof.Machine
end

