-- ==== Sys2Proof/Machine/Ops.lean ====
section
/-! DEFINITION. The operations that the steps share on the tables of the part: the Attention Set (R154), the outboxes (R102,
R103), the expiry queue (R70), bundles (R25 to R28), the pending list and its scan (R48 to R55), and the silence of a client
(R59, R78, R90). Each is made whole, in the order its rule gives. -/

namespace Sys2Proof.Machine

/-! ## Attention Set (R154) -/

/-- An occurrence count rises by one, stopping at 255 (R154). -/
def bumpCount (n : Byte) : Byte := if n = 255#8 then n else n + 1#8

/-- A posting, taken whole (R154): it raises the entry of its pair, or appends a new entry with the clock as its stamp, or, with
48 entries in the set, is dropped and sets the overflow flag. -/
def AttentionSet.post (a : AttentionSet) (what : Attention) (now : Word) : AttentionSet :=
  if a.entries.any fun e => e.what == what then
    { a with entries := a.entries.map fun e => if e.what = what then { e with count := bumpCount e.count } else e }
  else if a.entries.length < 48 then
    { a with entries := a.entries ++ [{ what := what, stamp := now, count := 1#8 }] }
  else { a with overflow := true }

/-- A block posts a condition to the Attention Set. -/
def State.postAttention (s : State) (what : Attention) : State := { s with attn := s.attn.post what s.lt.clock }

/-! ## Client records and outboxes (R101 to R104) -/

/-- Replace one client runtime record. -/
def State.setClient (s : State) (c : Slot) (r : ClientRuntime) : State := { s with ct := s.ct.set c r }

/-- A notice joins an outbox that has room (R102). -/
def ClientRuntime.append (r : ClientRuntime) (body : NoticeBody) : ClientRuntime :=
  { r with outbox := r.outbox ++ [{ seq := r.nextNotice, body := body }], nextNotice := r.nextNotice + 1#8 }

/-- A notice met a full outbox: a single RESYNC takes the place of everything in it (R103). -/
def ClientRuntime.resync (r : ClientRuntime) : ClientRuntime :=
  { r with outbox := [{ seq := r.nextNotice, body := .resync }], nextNotice := r.nextNotice + 1#8 }

/-- A client takes notices: its record is in use and it is JOINED or SILENT (R102). -/
def State.takesNotices (s : State) (c : Slot) : Bool :=
  s.inUse c && (s.ct[c].state == .joined || s.ct[c].state == .silent)

/-- A notice is posted to a client's outbox (R102, R103). -/
def State.postNotice (s : State) (c : Slot) (body : NoticeBody) : State :=
  if s.takesNotices c then
    if s.ct[c].outbox.length < 8 then s.setClient c (s.ct[c].append body)
    else (s.setClient c s.ct[c].resync).postAttention (.resync c)
  else s

/-- An acknowledgement removes the notices up to and including the one with its number, when that one is present (R104). -/
def acknowledge (n : Byte) (outbox : List Notice) : List Notice :=
  if outbox.any fun x => x.seq == n then (outbox.dropWhile fun x => !(x.seq == n)).tail else outbox

/-! ## Expiry queue (R69, R70) -/

/-- Insert a bundle after every bundle whose deadline is earlier than or equal to its own (R70). -/
def insertByDeadline (deadline : BundleId → Word) (b : BundleId) : List BundleId → List BundleId
  | [] => [b]
  | x :: rest =>
    if deadline x = deadline b ∨ isEarlier (deadline x) (deadline b) = true then x :: insertByDeadline deadline b rest
    else b :: x :: rest

/-- Insert a bundle of the bundle table into the expiry queue under its deadline (R70). -/
def State.enqueueExpiry (s : State) (b : BundleId) : State :=
  { s with lt := { s.lt with queue := insertByDeadline s.deadlineOf b s.lt.queue } }

/-- Replace a slot of the bundle table. -/
def State.setBundle (s : State) (b : BundleId) (x : Option Bundle) : State :=
  { s with ge := { s.ge with bundles := s.ge.bundles.set b x } }

/-- Take a bundle out of the expiry queue. -/
def State.dequeueExpiry (s : State) (b : BundleId) : State :=
  { s with lt := { s.lt with queue := s.lt.queue.erase b } }

/-- Give a live bundle a changed record and put it under its new deadline in the queue (R70, R76, R78). -/
def State.reschedule (s : State) (b : BundleId) (x : Bundle) : State :=
  ((s.dequeueExpiry b).setBundle b (some x)).enqueueExpiry b

/-- A bundle is removed (R27, R28): its slot empties, its token is held by no live bundle any more, and it leaves the expiry
queue. -/
def State.removeBundle (s : State) (b : BundleId) : State := (s.setBundle b none).dequeueExpiry b

/-! ## Zones (R19) -/

/-- Replace one zone runtime record. -/
def State.setZone (s : State) (z : ZoneId) (r : ZoneState) : State :=
  { s with ge := { s.ge with zones := s.ge.zones.set z r } }

/-- A bundle id joins the tail of a zone's holder list (R19). -/
def State.addHolder (s : State) (b : BundleId) (z : ZoneId) : State :=
  s.setZone z { s.ge.zones[z] with holders := s.ge.zones[z].holders ++ [b] }

/-- A bundle id leaves a zone's holder list; the unit is free (R27, R28 under FREE). -/
def State.dropHolder (s : State) (b : BundleId) (z : ZoneId) : State :=
  s.setZone z { s.ge.zones[z] with holders := s.ge.zones[z].holders.erase b }

/-- A zone's unit is left fenced: the bundle id leaves the holder list and the fence count rises by one, and FENCED is posted when
it rises from 0 (R28 under FENCE). -/
def State.fenceUnit (s : State) (b : BundleId) (z : ZoneId) : State :=
  let s' := s.setZone z
    { s.ge.zones[z] with holders := s.ge.zones[z].holders.erase b, fences := s.ge.zones[z].fences + 1 }
  if s.ge.zones[z].fences = 0 then s'.postAttention (.fenced z) else s'

/-- A zone of an ending bundle is dealt with under its disposition (step 1 of R28). -/
def State.disposeZone (s : State) (b : BundleId) (d : ExpiryPolicy) (z : ZoneId) : State :=
  match d with
  | .free => s.dropHolder b z
  | .fence => s.fenceUnit b z

/-! ## Bundles (R24 to R28) -/

/-- A live bundle carries the token (R25). -/
def State.tokenLive (s : State) (t : Half) : Bool :=
  s.ge.bundles.toList.any fun x => match x with | some y => y.token == t | none => false

/-- Examine the counter and advance it past 0 and past the tokens of live bundles (steps 1 and 2 of R25). -/
def findToken (live : Half → Bool) : Nat → Half → Half
  | 0, t => t
  | n + 1, t => if t = 0#16 ∨ live t = true then findToken live n (t + 1#16) else t

/-- The token of the next bundle; a value that passes is found within 66 examinations (R25). -/
def State.nextToken (s : State) : Half := findToken s.tokenLive 66 s.ge.tokenCounter

/-- The record of a new bundle (step 2 of R26): the deadline is the clock plus the term, the renew count 0. -/
def newBundle (holder : Slot) (tag : Byte) (term : Half) (zones : List ZoneId) (token : Half) (now : Word) : Bundle :=
  { holder := holder, tag := tag, token := token, term := term, deadline := now + term.zeroExtend 32, renews := 0#8,
    zones := zones }

/-- A bundle is created in slot `b` (R26): token and slot, record, holder lists, expiry queue. -/
def State.createBundle (s : State) (b : BundleId) (holder : Slot) (tag : Byte) (term : Half) (zones : List ZoneId) : State :=
  let x := newBundle holder tag term zones s.nextToken s.lt.clock
  let s1 := { s with ge := { s.ge with tokenCounter := s.nextToken + 1#16 } }
  let s2 := s1.setBundle b (some x)
  let s3 := zones.foldl (fun t z => t.addHolder b z) s2
  s3.enqueueExpiry b

/-- Steps 1 and 2 of the end of a bundle (R28): its zones in list order under their dispositions, then its removal. -/
def State.endBundle (s : State) (b : BundleId) (disposition : ZoneId → ExpiryPolicy) : State :=
  ((s.zonesOfBundle b).foldl (fun t z => t.disposeZone b (disposition z) z) s).removeBundle b

/-- The zones of an ending bundle, each with its fenced mark (step 3 of R28, R73). -/
def markedZones (zones : List ZoneId) (disposition : ZoneId → ExpiryPolicy) : List (ZoneId × Bool) :=
  zones.map fun z => (z, disposition z == .fence)

/-- The bundles of a list end one after another, without notice (R94, R97). -/
def State.endBundles (s : State) (bs : List BundleId) (disposition : ZoneId → ExpiryPolicy) : State :=
  bs.foldl (fun t b => t.endBundle b disposition) s

/-- A bundle gives up zones of its list (R27): each leaves it, in list order, and its unit is free; the bundle is removed when its
list becomes empty and keeps its place in the queue otherwise. -/
def State.giveUpZones (s : State) (b : BundleId) (x : Bundle) (given : List ZoneId) : State :=
  let s1 := given.foldl (fun t z => t.dropHolder b z) s
  let left := x.zones.filter fun z => !decide (z ∈ given)
  if left = [] then s1.removeBundle b else s1.setBundle b (some { x with zones := left })

/-- All of a bundle is released (R27, R95). -/
def State.releaseBundle (s : State) (b : BundleId) : State :=
  match s.ge.bundles[b] with
  | some x => s.giveUpZones b x x.zones
  | none => s

/-- The bundles of a list are released one after another (R95). -/
def State.releaseBundles (s : State) (bs : List BundleId) : State := bs.foldl (fun t b => t.releaseBundle b) s

/-! ## Pending list (R48 to R60) -/

/-- Replace the pending list. -/
def State.setEntries (s : State) (es : List Entry) : State := { s with ge := { s.ge with entries := es } }

/-- A client's entry leaves the list; the entries behind it keep their order (R49). -/
def State.removeEntry (s : State) (c : Slot) : State := s.setEntries (s.ge.entries.filter fun e => !(e.client == c))

/-- Holder edges of a waiting client with these zones: to the client of every bundle that holds a FULL zone (R51). -/
def State.holderEdges (s : State) (zones : List ZoneId) : List Slot :=
  zones.flatMap fun z =>
    if s.derivedState z = .full then s.ge.zones[z].holders.filterMap fun b => s.ge.bundles[b].map fun x => x.holder else []

/-- Order edges: to the client of every older entry that names one of these zones (R51). -/
def orderEdges (older : List Entry) (zones : List ZoneId) : List Slot :=
  (older.filter fun e => e.zones.any fun z => decide (z ∈ zones)).map fun e => e.client

/-- The wait-for edges of a client that waits for `zones` behind the entries `older` (R51). -/
def State.waitEdges (s : State) (older : List Entry) (zones : List ZoneId) : List Slot :=
  s.holderEdges zones ++ orderEdges older zones

/-- The wait-for edges of a client of the pending list; none of a client without an entry (R51). -/
def State.edgesFrom (s : State) (c : Slot) : List Slot :=
  match s.entryOf c with
  | some e => s.waitEdges (s.ge.entries.takeWhile fun e' => !(e'.client == c)) e.zones
  | none => []

/-- Follow the edges of every client reached so far once more. -/
def State.reachMore (s : State) (reached : List Slot) : List Slot :=
  (List.finRange 32).filter fun c => decide (c ∈ reached) || reached.any fun d => decide (c ∈ s.edgesFrom d)

/-- Follow the edges `n` times over. -/
def State.reach (s : State) : Nat → List Slot → List Slot
  | 0, reached => reached
  | n + 1, reached => s.reach n (s.reachMore reached)

/-- The deadlock check refuses the request of client `c` for `zones`: the requester can be reached from itself (R52). There are 32
clients, so following the edges 32 times reaches all that can be reached. -/
def State.wouldDeadlock (s : State) (c : Slot) (zones : List ZoneId) : Bool :=
  decide (c ∈ s.reach 32 (s.waitEdges s.ge.entries zones))

/-- An entry joins the tail of the list (R50): stamp from the clock, arrival number from the counter, which then advances. -/
def State.enqueueEntry (s : State) (c : Slot) (tag : Byte) (term : Half) (zones : List ZoneId) : State :=
  { s with ge := { s.ge with
      entries := s.ge.entries ++ [{ client := c, tag := tag, term := term, zones := zones, stamp := s.lt.clock,
                                    arrival := s.ge.arrivalCounter, alarmed := false }]
      arrivalCounter := s.ge.arrivalCounter + 1#16 } }

/-- A scan grants an entry into the empty slot `b` (R55): bundle, removal from the list, GRANT. -/
def State.grantEntry (s : State) (b : BundleId) (e : Entry) : State :=
  let s1 := s.createBundle b e.client e.tag e.term e.zones
  let s2 := s1.setEntries (s1.ge.entries.erase e)
  s2.postNotice e.client (.grant e.tag b s.nextToken (lowHalf (s.lt.clock + e.term.zeroExtend 32)))

/-- The walk of a grant scan over the entries from the head on, with the reserved set so far (R54). -/
def scanWalk : List Entry → List ZoneId → State → State
  | [], _, s => s
  | e :: rest, reserved, s =>
    match s.freeSlot with
    | none => s
    | some b =>
      if e.zones.all fun z => s.zoneAvailable z && !decide (z ∈ reserved) then scanWalk rest reserved (s.grantEntry b e)
      else scanWalk rest (reserved ++ e.zones.filter fun z => !decide (z ∈ reserved)) s

/-- A claim requests a grant scan: in SERVING one scan runs after the claim's other effects; in any other mode none runs and the
request is not kept (R53). -/
def State.requestScan (s : State) : State := if s.mc.mode = .serving then scanWalk s.ge.entries [] s else s

/-! ## Miss and silence (R59, R78, R89 to R91) -/

/-- The silence withdrawal (R59). -/
def State.silenceWithdrawal (s : State) (c : Slot) : State :=
  match s.entryOf c with
  | some e => (s.removeEntry c).postNotice c (.withdrawn e.tag .silence)
  | none => s

/-- The silence cut of one bundle (R78). -/
def State.cutBundle (s : State) (b : BundleId) : State :=
  match s.ge.bundles[b] with
  | some x =>
    let cut := s.lt.clock + s.cu.catalogue.params.silenceGrace.zeroExtend 32
    if isEarlier cut x.deadline && !hasPassed s.lt.clock x.deadline then s.reschedule b { x with deadline := cut } else s
  | none => s

/-- The silence cut of a client's bundles, in ascending order of bundle id (R78). -/
def State.silenceCut (s : State) (c : Slot) : State := (s.bundlesOf c).foldl (fun t b => t.cutBundle b) s

/-- A JOINED client falls silent (R90), as one claim. -/
def State.fallSilent (s : State) (c : Slot) : State :=
  let s1 := s.setClient c { s.ct[c] with state := .silent }
  let s2 := s1.silenceWithdrawal c
  let s3 := s2.silenceCut c
  let s4 := s3.postAttention (.silent c)
  if (s.entryOf c).isSome || !(s.bundlesOf c).isEmpty then s4.requestScan else s4

/-- A failed exchange with a client is reported (R89). -/
def State.miss (s : State) (c : Slot) : State :=
  if s.ct[c].state = .joined then
    let s1 := s.setClient c { s.ct[c] with misses := s.ct[c].misses + 1 }
    if s.ct[c].misses + 1 = s.cu.catalogue.params.missLimit then s1.fallSilent c else s1
  else s

/-- A SILENT client from which a valid reply is received returns to JOINED (R91). -/
def State.returnClient (s : State) (c : Slot) : State :=
  if s.ct[c].state = .silent then (s.setClient c { s.ct[c] with state := .joined }).postAttention (.returned c) else s

end Sys2Proof.Machine
end

