-- ==== Sys2Proof/Machine/Requests.lean ====
section
/-! DEFINITION. The requests of clients (R30 to R39, R57, R74 to R76, R92 to R95, R107) and the handling of a valid reply (R88). A
request is evaluated for the client `c` of the exchange and gives the state after it and its answer. -/

namespace Sys2Proof.Machine

/-! ## Terms and limits (R30, R75) -/

/-- The bounding term: the smallest maximum term among the zones (R30, R75). -/
def boundingTerm (cat : Catalogue) (zones : List ZoneId) : Half :=
  zones.foldl (fun m z => if cat.zones[z].maxTerm.toNat < m.toNat then cat.zones[z].maxTerm else m) 0xFFFF#16

/-- The resolved term, when the requested term is admitted (R30, R75). -/
def resolveTerm (bound requested : Half) : Option Half :=
  if requested = 0#16 then some bound else if requested.toNat ≤ bound.toNat then some requested else none

/-- The renewal limit: the smallest nonzero renewal limit among the zones, none when every one is 0 (R75). -/
def renewalLimit (cat : Catalogue) (zones : List ZoneId) : Option Nat :=
  ((zones.map fun z => cat.zones[z].renewalLimit.toNat).filter fun n => !(n == 0)).foldl
    (fun m n => match m with | none => some n | some k => some (min k n)) none

/-- A renew count rises by one, stopping at 255 (R76). -/
def bumpRenews (n : Byte) : Byte := if n = 255#8 then n else n + 1#8

/-! ## ACQUIRE (R30 to R37) -/

/-- The zone byte names an enabled zone (step 2 of R32). -/
def State.enabledZoneByte (s : State) (b : Byte) : Bool :=
  match zoneOfByte b with
  | some z => s.cu.catalogue.zones[z].enabled
  | none => false

/-- The answer to a NOWAIT request that is not granted: the first line of Table 2-6 (R36). -/
def State.noWaitAnswer (s : State) (zones : List ZoneId) : Answer :=
  if zones.any fun z => !s.zoneAvailable z || s.namedByEntry z then .unavailable
  else if s.freeSlot.isNone then .tableFull
  else .holding

/-- A WAIT request that is not granted goes to the pending list in the same claim (R37, R50). -/
def State.wait (s : State) (c : Slot) (tag : Byte) (term : Half) (zones : List ZoneId) : State × Answer :=
  if s.wouldDeadlock c zones then (s, .wouldDeadlock)
  else (s.enqueueEntry c tag term zones, .queued (s.ge.entries.length + 1))

/-- The slot of an immediate grant, when R35 makes one. -/
def State.grantSlot (s : State) (zones : List ZoneId) : Option BundleId :=
  if s.mc.mode = .serving ∧ (zones.all fun z => s.zoneAvailable z && !s.namedByEntry z) = true then s.freeSlot else none

/-- The admission of a request that passes the eight checks (R35 to R37). -/
def State.grantOrWait (s : State) (c : Slot) (tag : Byte) (wait : Bool) (term : Half) (zones : List ZoneId) : State × Answer :=
  match s.grantSlot zones with
  | some b =>
    (s.createBundle b c tag term zones, .granted b s.nextToken (lowHalf (s.lt.clock + term.zeroExtend 32)))
  | none => if wait then s.wait c tag term zones else (s, s.noWaitAnswer zones)

/-- Checks 4 to 8 of ACQUIRE for a list of enabled zones, and then the admission (R33 to R37). -/
def State.acquireZones (s : State) (c : Slot) (tag : Byte) (wait : Bool) (term : Half) (zones : List ZoneId) :
    State × Answer :=
  match zones.find? fun z => !s.cu.catalogue.clients[c].permissions.getLsbD s.cu.catalogue.zones[z].cls.val with
  | some z => (s, .notPermitted z)
  | none =>
    match resolveTerm (boundingTerm s.cu.catalogue zones) term with
    | none => (s, .termRange (boundingTerm s.cu.catalogue zones))
    | some resolved =>
      match zones.find? fun z => s.clientHoldsZone c z with
      | some z => (s, .alreadyHeld z)
      | none =>
        if (s.entryOf c).isSome then (s, .pendingExists)
        else if s.cu.catalogue.clients[c].bundleLimit ≤ (s.bundlesOf c).length then (s, .clientLimit)
        else s.grantOrWait c tag wait resolved zones

/-- ACQUIRE (R30): checks 1 to 3, and then the rest. A list of more than six zones makes no request (R184). -/
def State.acquire (s : State) (c : Slot) (tag : Byte) (wait : Bool) (term : Half) (zones : List Byte) : State × Answer :=
  if zones.length > 6 then (s, .malformed)
  else if !s.inService then (s, .notServing)
  else if s.ct[c].state ≠ .joined then (s, .notJoined)
  else if zones = [] ∨ ¬ zones.Nodup then (s, .malformed)
  else
    match zones.find? fun b => !s.enabledZoneByte b with
    | some b => (s, .badZone b)
    | none => s.acquireZones c tag wait term (zones.filterMap zoneOfByte)

/-! ## Requests on a live bundle -/

/-- Checks 1 to 4 of RENEW and RELEASE (R38, R74): the bundle named, or the answer that refuses. -/
def State.ownedBundle (s : State) (c : Slot) (bundle : Byte) (token : Half) : Except Answer (BundleId × Bundle) :=
  if !s.inService then .error .notServing
  else if s.ct[c].state ≠ .joined then .error .notJoined
  else
    match bundleOfByte bundle with
    | none => .error .noSuchBundle
    | some b =>
      match s.ge.bundles[b] with
      | none => .error .noSuchBundle
      | some x =>
        if x.holder ≠ c then .error .noSuchBundle else if x.token ≠ token then .error .badToken else .ok (b, x)

/-- RENEW (R74 to R76). -/
def State.renew (s : State) (c : Slot) (bundle : Byte) (token term : Half) : State × Answer :=
  match s.ownedBundle c bundle token with
  | .error a => (s, a)
  | .ok (b, x) =>
    match resolveTerm (boundingTerm s.cu.catalogue x.zones) term with
    | none => (s, .termRange (boundingTerm s.cu.catalogue x.zones))
    | some resolved =>
      if (match renewalLimit s.cu.catalogue x.zones with | none => true | some l => decide (x.renews.toNat < l)) then
        let d := s.lt.clock + resolved.zeroExtend 32
        (s.reschedule b { x with term := resolved, deadline := d, renews := bumpRenews x.renews },
          .renewed (lowHalf d) (bumpRenews x.renews))
      else (s, .limit x.renews)

/-- The zones that a RELEASE gives up: all of them for FFH, else the one zone, when the bundle holds it (check 5 of R38). -/
def releasedZones (x : Bundle) (zone : Byte) : Option (List ZoneId) :=
  if zone = 0xFF#8 then some x.zones
  else
    match zoneOfByte zone with
    | some z => if z ∈ x.zones then some [z] else none
    | none => none

/-- RELEASE (R38, R39). -/
def State.release (s : State) (c : Slot) (bundle : Byte) (token : Half) (zone : Byte) : State × Answer :=
  match s.ownedBundle c bundle token with
  | .error a => (s, a)
  | .ok (b, x) =>
    match releasedZones x zone with
    | none => (s, .notHeld)
    | some given =>
      ((s.giveUpZones b x given).requestScan, .released (x.zones.filter fun z => !decide (z ∈ given)).length)

/-- CANCEL (R57). -/
def State.cancel (s : State) (c : Slot) (tag : Byte) : State × Answer :=
  if !s.inService then (s, .notServing)
  else if s.ct[c].state ≠ .joined then (s, .notJoined)
  else
    match s.entryOf c with
    | some e => if e.tag = tag then ((s.removeEntry c).requestScan, .cancelled) else (s, .notFound)
    | none => (s, .notFound)

/-! ## Sessions (R92 to R95) and STATUS (R107) -/

/-- A new session from ABSENT (R92). -/
def State.newSession (s : State) (c : Slot) (session : Half) : State :=
  s.setClient c { s.ct[c] with state := .joined, session := some session, misses := 0, last := none }

/-- A fresh session (R94). -/
def State.freshSession (s : State) (c : Slot) (session : Half) : State :=
  let s1 := (s.endBundles (s.bundlesOf c) s.policyOf).removeEntry c
  (s1.setClient c
    { s1.ct[c] with state := .joined, session := some session, misses := 0, last := none, outbox := [] }).requestScan

/-- JOIN (R92, R93, R94). -/
def State.join (s : State) (c : Slot) (session : Half) : State × Answer :=
  if !s.inService then (s, .notServing)
  else if session = 0#16 then (s, .malformed)
  else if s.ct[c].state ≠ .joined then (s.newSession c session, .joined .new 0 false 0)
  else if s.ct[c].session = some session then
    (s, .joined .resumed (s.bundlesOf c).length (s.entryOf c).isSome s.ct[c].outbox.length)
  else (s.freshSession c session, .joined .fresh 0 false 0)

/-- LEAVE (R95). -/
def State.leave (s : State) (c : Slot) : State × Answer :=
  if !s.inService then (s, .notServing)
  else if s.ct[c].state ≠ .joined then (s, .notJoined)
  else
    let s1 := (s.releaseBundles (s.bundlesOf c)).removeEntry c
    ((s1.setClient c { s1.ct[c] with state := .absent, session := none, misses := 0, outbox := [] }).requestScan,
      .left (s.bundlesOf c).length)

/-- A bundle as STATUS reports it (R107). -/
def State.statusBundle (s : State) (b : BundleId) : Option StatusBundle :=
  s.ge.bundles[b].map fun x =>
    { bundle := b, token := x.token, remaining := lowHalf (remainingTicks s.lt.clock x.deadline), zones := x.zones }

/-- STATUS (R107). -/
def State.status (s : State) (c : Slot) : State × Answer :=
  if !s.inService then (s, .notServing)
  else if s.ct[c].state ≠ .joined then (s, .notJoined)
  else (s, .status ((s.entryOf c).map fun e => e.tag) ((s.bundlesOf c).filterMap s.statusBundle))

/-! ## A valid reply (R88) -/

/-- The request is dispatched to the block that decides it (step 6 of R88, R137). -/
def State.evaluate (s : State) (c : Slot) : Request → State × Answer
  | .malformed => (s, .malformed)
  | .join session => s.join c session
  | .leave => s.leave c
  | .acquire tag wait term zones => s.acquire c tag wait term zones
  | .cancel tag => s.cancel c tag
  | .renew bundle token term => s.renew c bundle token term
  | .release bundle token zone => s.release c bundle token zone
  | .status => s.status c

/-- The acknowledgement of a reply is applied to the client's outbox (step 3 of R88, R104). -/
def State.applyAck (s : State) (c : Slot) (ack : Option Byte) : State :=
  match ack with
  | some n => s.setClient c { s.ct[c] with outbox := acknowledge n s.ct[c].outbox }
  | none => s

/-- Steps 1 to 3 of R88: the return of a SILENT client, the miss count, the acknowledgement. -/
def State.acceptReply (s : State) (c : Slot) (ack : Option Byte) : State :=
  let s1 := s.returnClient c
  (s1.setClient c { s1.ct[c] with misses := 0 }).applyAck c ack

/-- The request is a JOIN. -/
def Request.isJoin : Request → Bool
  | .join _ => true
  | .malformed | .leave | .acquire _ _ _ _ | .cancel _ | .renew _ _ _ | .release _ _ _ | .status => false

/-- The stored answer that a duplicate is answered with (R105); a JOIN from an ABSENT client is not checked. -/
def State.duplicateAnswer (s : State) (c : Slot) (seq : RequestSeq) (req : Request) : Option StoredAnswer :=
  if req.isJoin ∧ s.ct[c].state = .absent then none
  else
    match s.ct[c].last with
    | some a => if a.seq = seq then some a else none
    | none => none

/-- Steps 5 to 7 of R88: the duplicate check, the evaluation, and the storing of the answer (R105, R106). -/
def State.handleRequest (s : State) (c : Slot) (seq : RequestSeq) (req : Request) : State × StoredAnswer :=
  match s.duplicateAnswer c seq req with
  | some a => (s, a)
  | none =>
    let r := s.evaluate c req
    let a : StoredAnswer := { seq := seq, answer := r.2 }
    (r.1.setClient c { r.1.ct[c] with last := some a }, a)

/-- A valid REQUEST reply, as one claim (R88). -/
def State.requestReply (s : State) (c : Slot) (seq : RequestSeq) (ack : Option Byte) (req : Request) :
    State × StoredAnswer :=
  (s.acceptReply c ack).handleRequest c seq req

end Sys2Proof.Machine
end

