-- ==== Sys2Proof/Machine/Link.lean ====
section
/-! DEFINITION. The Link Interface (Chapter 6) and the Exchange Scheduler (Chapter 7): reception, reports, the judgement of
replies, failed exchanges, the choice of a target, and transmission. -/

namespace Sys2Proof.Machine

/-! ## Reception (R114 to R120) -/

/-- The frame that is complete with its second CRC character: delivered when the CRC over the received bytes equals the two
received bytes, abandoned otherwise (R120). -/
def completeFrame (address kind : Byte) (bytes : List Byte) (crcHigh crcLow : Byte) : Report :=
  if crc16 (frameCrcBytes address kind bytes) = halfOf crcHigh crcLow then
    .delivered { address := address, kind := kind, body := bytes }
  else .abandoned .crc

/-- A good character with mark bit 1 begins a frame, superseding the one in assembly (R116). -/
def Receiver.takeMarked (r : Receiver) (d : Byte) : Receiver × List Report :=
  (.headerKind d, if r.inFrame then [.abandoned .superseded, .frameStart] else [.frameStart])

/-- A good character with mark bit 0, by receiver state (Table 6-4). -/
def Receiver.takeUnmarked (r : Receiver) (d : Byte) : Receiver × List Report :=
  match r with
  | .off => (.off, [])
  | .muted => (.muted, [])
  | .hunt => (.hunt, [])
  | .headerKind address => (.headerLength address d, [])
  | .headerLength address kind =>
    if d.toNat > 56 then (.hunt, [.abandoned .length])
    else if d = 0#8 then (.check address kind d [] none, [])
    else (.body address kind d [], [])
  | .body address kind length bytes =>
    if bytes.length + 1 = length.toNat then (.check address kind length (bytes ++ [d]) none, [])
    else (.body address kind length (bytes ++ [d]), [])
  | .check address kind length bytes none => (.check address kind length bytes (some d), [])
  | .check address kind _ bytes (some h) => (.hunt, [completeFrame address kind bytes h d])

/-- The receiver takes characters: it is neither OFF nor MUTED (R111, R115, R123). -/
def Receiver.listening : Receiver → Bool
  | .off | .muted => false
  | .hunt | .headerKind _ | .headerLength _ _ | .body _ _ _ _ | .check _ _ _ _ _ => true

/-- A good character is taken (R114, R116). -/
def Receiver.take (r : Receiver) (mark : Bool) (d : Byte) : Receiver × List Report :=
  if mark then r.takeMarked d else r.takeUnmarked d

/-- Replace the receiver state. -/
def State.setReceiver (s : State) (r : Receiver) : State := { s with li := { s.li with receiver := r } }

/-- Replace the exchange state. -/
def State.setExchange (s : State) (e : ExchangeState) : State := { s with es := { s.es with exchange := e } }

/-! ## Judging the reply (R133 to R137) -/

/-- A failed exchange (R135): it is reported when the client the exchange was begun with still stands, and the ES returns to
GAP. -/
def State.failExchange (s : State) (x : Exchange) : State :=
  let s1 := if s.exchangeStands x then s.miss x.target else s
  s1.setExchange .gap

/-- What a reply frame says to the Client Table: an IDLE with its acknowledgement, or a REQUEST (R134, R136, R137). -/
inductive Reply where
  | idle (ack : Option Byte)
  | request (seq : RequestSeq) (ack : Option Byte) (req : Request)
  deriving DecidableEq, Repr

/-- The conditions of Table 7-3 in order; none when one of them fails (R134). The body of an IDLE is empty or one byte, that of a
REQUEST at least two bytes. -/
def judgeFrame (address : Nat) (f : Frame) : Option Reply :=
  if fromPart f.address ∨ addressField f.address ≠ address then none
  else if f.kind = kindIdle then
    match f.body with
    | [] => some (.idle none)
    | [n] => some (.idle (some n))
    | _ => none
  else if f.kind = kindRequest then
    match f.body with
    | b0 :: b1 :: rest => some (.request (b0.truncate 4) (readAck b0 b1) (parseRequest rest))
    | _ => none
  else none

/-- A valid reply is handed to the Client Table (R136, R137), or discarded when the client it comes from is not the target any
more (R140). After an IDLE or a discarded reply the ES returns to GAP; after a REQUEST it is ANSWERING. -/
def State.takeReply (s : State) (x : Exchange) (reply : Reply) : State :=
  if s.exchangeStands x then
    match reply with
    | .idle ack => (s.acceptReply x.target ack).setExchange .gap
    | .request seq ack req =>
      let r := s.requestReply x.target seq ack req
      r.1.setExchange (.answering x r.2 false)
  else s.setExchange .gap

/-- The deciding frame has been delivered (R134). -/
def State.judgeReply (s : State) (x : Exchange) (f : Frame) : State :=
  match judgeFrame x.address f with
  | some reply => s.takeReply x reply
  | none => s.failExchange x

/-- The ES takes a report of the LI (R133, R134, R139): in AWAITING the first FRAME START makes the deciding frame, whose delivery
or abandonment decides the exchange; every other report is outside any exchange and is discarded. -/
def State.takeReport (s : State) (rep : Report) : State :=
  match s.es.exchange with
  | .awaiting x window false =>
    match rep with
    | .frameStart => s.setExchange (.awaiting x window true)
    | .delivered _ | .abandoned _ => s
  | .awaiting x _ true =>
    match rep with
    | .frameStart => s
    | .delivered f => s.judgeReply x f
    | .abandoned _ => s.failExchange x
  | .gap | .polling _ | .answering _ _ _ => s

/-- Reports are taken in the order in which their events happen (R121). -/
def State.takeReports (s : State) (reps : List Report) : State := reps.foldl State.takeReport s

/-- The receiver listens: it is not OFF or MUTED, and no framing error holds it off (R111). -/
def State.hears (s : State) : Bool := s.li.receiver.listening && !s.li.lineHeld

/-- A good character (R114): the receiver takes it and the ES takes what the LI reports. -/
def State.takeCharacter (s : State) (mark : Bool) (d : Byte) : State :=
  let r := s.li.receiver.take mark d
  (s.setReceiver r.1).takeReports r.2

/-- The frame in assembly, if any, is abandoned with a cause, and the receiver takes the state `r` (R115, R117, R119). -/
def State.abandonFrame (s : State) (cause : AbandonCause) (r : Receiver) : State :=
  let s1 := s.setReceiver r
  if s.li.receiver.inFrame then s1.takeReport (.abandoned cause) else s1

/-- A reply stands delivered in the exchange in AWAITING, as one event that stands for all its characters (log 5): the frame
assembly is empty, the receiver in HUNT, and the line has been at 1 again, as the characters of the frame show. -/
def State.deliverReply (s : State) (reply : Reply) : State :=
  match s.es.exchange with
  | .awaiting x _ _ => { s with li := { s.li with receiver := .hunt, lineHeld := false } }.takeReply x reply
  | .gap | .polling _ | .answering _ _ _ => s

/-! ## Transmission (R115, R122) -/

/-- A frame is handed to the transmitter: SENDING, LBDE active, the receiver MUTED, and what is in assembly abandoned with cause
TRANSMIT. -/
def State.transmit (s : State) (address : Nat) (kind : Byte) (body : List Byte) : State :=
  let s1 := s.abandonFrame .transmit .muted
  { s1 with li := { s1.li with transmitter := .sending (frameChars (addressByteFromPart address) kind body) } }

/-! ## Choice of the target (R126 to R131) -/

/-- The client of a list with the lowest bus address. -/
def State.lowestAddress (s : State) : List Slot → Option Slot
  | [] => none
  | c :: rest =>
    match s.lowestAddress rest with
    | none => some c
    | some d => if s.addressOf d < s.addressOf c then some d else some c

/-- The client of the set with the lowest address equal to or above the pointer, else with the lowest address (R128). -/
def State.pickFrom (s : State) (pointer : Nat) (set : List Slot) : Option Slot :=
  match s.lowestAddress (set.filter fun c => decide (pointer ≤ s.addressOf c)) with
  | some c => some c
  | none => s.lowestAddress set

/-- The pointer after an address has been chosen (R128). -/
def nextPointer (address : Nat) : Nat := if address = 62 then 1 else address + 1

/-- The choice of Table 7-2 is a roll-call: line 1 or line 2 (R129). -/
def State.choosesRollCall (s : State) : Bool :=
  !s.rollCallSet.isEmpty &&
    (s.rotationSet.isEmpty || decide (s.cu.catalogue.params.rollCallInterval ≤ s.es.rollCallCounter))

/-- The target of the next exchange, none when the bus is quiet (R128, R129, R130). -/
def State.chooseTarget (s : State) : Option Slot :=
  if s.choosesRollCall then s.pickFrom s.es.rollCallPointer s.rollCallSet else s.pickFrom s.es.rotationPointer s.rotationSet

/-- Pointers and counter after the choice of a target (R128, Table 7-2). -/
def State.afterChoice (s : State) (c : Slot) : ExchangeScheduler :=
  if s.choosesRollCall then { s.es with rollCallPointer := nextPointer (s.addressOf c), rollCallCounter := 0 }
  else { s.es with rotationPointer := nextPointer (s.addressOf c), rollCallCounter := min (s.es.rollCallCounter + 1) 255 }

/-- The notice a POLL to the client carries: the oldest of its outbox when it is JOINED (R131). -/
def State.pollNotice (s : State) (c : Slot) : Option Notice :=
  if s.ct[c].state = .joined then s.ct[c].outbox.head? else none

/-- The POLL to a target is built and handed to the transmitter, and the ES enters POLLING (R126, R131). -/
def State.pollTarget (s : State) (c : Slot) : State :=
  let s1 := { s with es := s.afterChoice c }
  let s2 := s1.transmit (s.addressOf c) kindPoll (pollBody s.lt.clock (s.pollNotice c))
  s2.setExchange (.polling { target := c, address := s.addressOf c, discard := false })

/-- BAR CLIENT of the target sets the discard mark of the exchange record (Table 7-4). In ANSWERING the ANSWER is sent all the same,
since SEND_ANSWER does not look at the mark (R140). -/
def State.markDiscard (s : State) (c : Slot) : State :=
  match s.es.exchange with
  | .polling x => if x.target = c then s.setExchange (.polling { x with discard := true }) else s
  | .awaiting x w d => if x.target = c then s.setExchange (.awaiting { x with discard := true } w d) else s
  | .answering x a sending => if x.target = c then s.setExchange (.answering { x with discard := true } a sending) else s
  | .gap => s

end Sys2Proof.Machine
end

