-- ==== Sys2Proof/Machine/Bus.lean ====
section
/-! DEFINITION. The meanings of the events of the lease bus: CHARACTER_RECEIVED, FRAMING_ERROR, GAP_LIMIT_EXPIRY, LINE_RETURNS_TO_1,
BEGIN_EXCHANGE, TRANSMIT_DONE, REPLY_WINDOW_TIMEOUT and SEND_ANSWER (Chapters 6 and 7). -/

namespace Sys2Proof.Machine

/-- CHARACTER_RECEIVED (R114): a receiver that is OFF, MUTED or held off by a framing error takes no character (R111, R115, R123). -/
def execCharacterReceived (mark : Bool) (data : Byte) (s : State) : Host.Outcome State Fault Refusal :=
  if s.hears then .next (s.takeCharacter mark data) else .next s

/-- FRAMING_ERROR (R119): the frame in assembly is abandoned with cause FRAMING, or the error is discarded in HUNT; the receiver then
waits for the line to read 1 (R111). -/
def execFramingError (s : State) : Host.Outcome State Fault Refusal :=
  if s.hears then .next ({ s with li := { s.li with lineHeld := true } }.abandonFrame .framing .hunt) else .next s

/-- GAP_LIMIT_EXPIRY (R117): a frame in assembly is abandoned with cause GAP; in HUNT no gap limit runs. -/
def execGapLimitExpiry (s : State) : Host.Outcome State Fault Refusal :=
  if s.li.receiver.inFrame then .next (s.abandonFrame .gap .hunt) else .next s

/-- LINE_RETURNS_TO_1 (R111): the receiver looks for a start bit again. OFF and MUTED it does not sample the line (DESIGN CHOICE,
log 17). -/
def execLineReturnsTo1 (s : State) : Host.Outcome State Fault Refusal :=
  if s.li.receiver.listening then .next { s with li := { s.li with lineHeld := false } } else .next s

/-- BEGIN_EXCHANGE (R126): in SERVING or HOLD, in GAP, with the transmitter IDLE and a candidate present; otherwise none begins
(R130). -/
def execBeginExchange (s : State) : Host.Outcome State Fault Refusal :=
  if s.inService ∧ s.es.exchange = .gap ∧ s.li.transmitter = .idle then
    match s.chooseTarget with
    | some c => .next (s.pollTarget c)
    | none => .next s
  else .next s

/-- The frame has been sent (step 4 of R122): the transmitter is IDLE and the receiver in HUNT. The end of the POLL opens the reply
window, read at this moment (R132); the end of the ANSWER ends the exchange (R138). A wait for the line at 1 that a framing error
before the transmission began (R111) goes on after it: `lineHeld` is kept (DESIGN CHOICE, log 17). -/
def State.endTransmission (s : State) : State :=
  let s1 := { s with li := { s.li with transmitter := .idle, receiver := .hunt } }
  match s.es.exchange with
  | .polling x => s1.setExchange (.awaiting x s.cu.catalogue.params.replyWindow false)
  | .answering _ _ true => s1.setExchange .gap
  | .gap | .awaiting _ _ _ | .answering _ _ false => s1

/-- TRANSMIT_DONE (R122). -/
def execTransmitDone (s : State) : Host.Outcome State Fault Refusal :=
  match s.li.transmitter with
  | .sending _ => .next s.endTransmission
  | .idle => .next s

/-- REPLY_WINDOW_TIMEOUT (R133): in AWAITING with no deciding frame the exchange fails with cause TIMEOUT. -/
def execReplyWindowTimeout (s : State) : Host.Outcome State Fault Refusal :=
  match s.es.exchange with
  | .awaiting x _ false => .next (s.failExchange x)
  | .gap | .polling _ | .awaiting _ _ true | .answering _ _ _ => .next s

/-- SEND_ANSWER (R138): the turnaround ends and the ANSWER is handed to the transmitter. -/
def execSendAnswer (s : State) : Host.Outcome State Fault Refusal :=
  match s.es.exchange with
  | .answering x a false =>
    if s.li.transmitter = .idle then
      .next ((s.transmit x.address kindAnswer (answerBody a)).setExchange (.answering x a true))
    else .next s
  | .gap | .polling _ | .awaiting _ _ _ | .answering _ _ true => .next s

end Sys2Proof.Machine
end

