-- ==== Sys2Proof/Config.lean ====
section
/-! DEFINITION. What the manual leaves open for the life of a part: the free bytes of a page on which an erase or a program
operation was stopped. -/

namespace Sys2Proof.Config

/-- FREE VALUE (DESIGN CHOICE, log 10): the n-th byte that the manual does not fix. The catalogue-memory operation that NVWE or
a reset interrupts "stops where it stands" (R169, R170), and no rule says what its page then reads. No value is chosen. -/
opaque freeByte : Nat → Byte

end Sys2Proof.Config
end

