-- ==== Sys2Proof/Machine/Mailbox.lean ====
section
/-! DEFINITION. The supervisor port (Chapter 8): transactions, reads with their effects, the command mailbox, and the publication
of responses. -/

namespace Sys2Proof.Machine

/-! ## Port and window (R143, R144, R146, R149, R152) -/

/-- Replace the port state. -/
def State.setPort (s : State) (p : Port) : State := { s with si := { s.si with port := p } }

/-- What the read of the byte at an address does: STATUS1 clears the overrun flag, the first lease-clock byte takes the latch, the
result byte ends DONE; every other read has no effect (R144). -/
def State.readEffect (s : State) (a : PortAddress) : State :=
  if a = 0x01#7 then { s with si := { s.si with overrun := false } }
  else if a = 0x04#7 then { s with si := { s.si with latch := s.lt.clock } }
  else if a = 0x2A#7 ∧ s.si.mailbox = .done then { s with si := { s.si with mailbox := .idle } }
  else s

/-- One byte of a read transaction: its value is shifted out, its read takes effect, and the address advances (R143, R144). -/
def State.readNext (s : State) : State :=
  match s.si.port with
  | .reading a =>
    let s1 := s.readEffect a
    { s1 with si := { s1.si with sdo := some (s.windowByte a), port := .reading (a + 1#7) } }
  | .inactive | .inert | .writing _ => s

/-- `n` bytes of a read transaction. -/
def State.readBytes : Nat → State → State
  | 0, s => s
  | n + 1, s => State.readBytes n s.readNext

/-- The read of the byte at `target`. The reads that have no row of their own are not steps: the transaction is clocked on from its
current address, each byte on the way read with its effect, until the byte at `target` has been shifted out (log 4). -/
def State.readThrough (s : State) (target : PortAddress) : State :=
  match s.si.port with
  | .reading a => State.readBytes ((target - a).toNat + 1) s
  | .inactive | .inert | .writing _ => s

/-! ## Mailbox (R147 to R152) -/

/-- The owning block decides the running command: the response waits for its publication (R147). -/
def State.respond (s : State) (r : Result) (contents : List Byte) : State :=
  match s.si.mailbox with
  | .busy copy _ => { s with si := { s.si with mailbox := .busy copy (some { result := r, contents := contents }) } }
  | .idle | .done => s

/-- Publication (R147): all 32 bytes of the response block are replaced and the mailbox becomes DONE, in one step. It is made when
a response is decided and SCS is inactive. -/
def State.publish (s : State) : State :=
  match s.si.mailbox with
  | .busy copy (some r) =>
    if s.si.port = .inactive then
      { s with si := { s.si with responseBlock := responseBlockOf (blockCode copy) r, mailbox := .done } }
    else s
  | .busy _ none | .idle | .done => s

/-- The byte that is written next in the transaction is EXECUTE, at 29H (Table 11-8). -/
def State.atExecute (s : State) : Bool := s.si.port == .writing 0x29#7

/-- The mailbox is BUSY. -/
def State.mailboxBusy (s : State) : Bool :=
  match s.si.mailbox with
  | .busy _ _ => true
  | .idle | .done => false

/-- A write to EXECUTE while the mailbox is BUSY: it sets the overrun flag and does nothing else (R149). -/
def State.overrunWrite (s : State) : State :=
  { s with si := { s.si with overrun := true, port := .writing 0x2A#7 } }

/-- A write to EXECUTE that starts a command: the command block as it stands is copied and the mailbox becomes BUSY (R147). -/
def State.startCommand (s : State) : State :=
  { s with si := { s.si with mailbox := .busy s.si.commandBlock none, port := .writing 0x2A#7 } }

/-- The command row of code `code`: the write to EXECUTE with that code in the command block. It is refused as an overrun while the
mailbox is BUSY (R149); otherwise the command is taken and its owner decides it with `decision`, from the command copy (R147,
R148). A write that is not at EXECUTE, or with another code in the block, is another row's step (logs 2 and 3). -/
def State.execute (s : State) (code : Byte) (decision : Block → State → State) : State :=
  if s.atExecute then
    if s.mailboxBusy then s.overrunWrite
    else if blockCode s.si.commandBlock = code then decision s.si.commandBlock s.startCommand
    else s
  else s

/-- The codes of Table 11-10. -/
def commandCodes : List Byte :=
  [0x10#8, 0x11#8, 0x12#8, 0x13#8, 0x14#8, 0x15#8, 0x16#8, 0x17#8, 0x18#8, 0x19#8,
   0x20#8, 0x21#8, 0x22#8, 0x23#8, 0x24#8, 0x25#8, 0x26#8, 0x27#8, 0x28#8,
   0x30#8, 0x31#8, 0x32#8, 0x38#8, 0x40#8, 0x41#8, 0x42#8, 0x43#8, 0x44#8]

end Sys2Proof.Machine
end

