-- ==== Sys2Proof/Machine/Memory.lean ====
section
/-! DEFINITION. The catalogue memory as bytes (R158): two banks of 64 pages of 32 bytes, a sparse list of cells in one canonical
form. A byte that is not listed reads FFH, as an erased page does (log 9). -/

namespace Sys2Proof.Machine

/-- What an unlisted byte reads as: the erased value (R158; for a part from stock DESIGN CHOICE, log 9). -/
def erasedByte : Byte := 0xFF#8

/-- The byte at an address. -/
def nvRead (a : Nat) : List Host.Cell → Byte
  | [] => erasedByte
  | (a', b') :: rest => if a = a' then b' else nvRead a rest

/-- Put a byte before a list of cells with higher addresses, or leave it unlisted when it is the erased value. -/
def nvCons (a : Nat) (b : Byte) (m : List Host.Cell) : List Host.Cell := if b = erasedByte then m else (a, b) :: m

/-- Set the byte at an address, keeping the canonical form. -/
def nvWrite (a : Nat) (b : Byte) : List Host.Cell → List Host.Cell
  | [] => nvCons a b []
  | (a', b') :: rest =>
    if a < a' then nvCons a b ((a', b') :: rest)
    else if a = a' then nvCons a b rest
    else (a', b') :: nvWrite a b rest

/-- Set successive bytes from an address on. -/
def nvWriteList : Nat → List Byte → List Host.Cell → List Host.Cell
  | _, [], m => m
  | a, b :: bs, m => nvWriteList (a + 1) bs (nvWrite a b m)

/-- The bytes of `n` successive addresses. -/
def nvReadList (a n : Nat) (m : List Host.Cell) : List Byte := (List.range n).map fun i => nvRead (a + i) m

/-- Program successive bytes: a program operation turns bits from 1 to 0 only, so a cell is left with the bits that were 1 in it
and are 1 in what the programming left (R158). -/
def nvProgramList : Nat → List Byte → List Host.Cell → List Host.Cell
  | _, [], m => m
  | a, b :: bs, m => nvProgramList (a + 1) bs (nvWrite a (nvRead a m &&& b) m)

/-- Addresses strictly rising, all above `lo`, and no cell equal to what an unlisted address reads as. -/
def nvWfFrom : Nat → List Host.Cell → Bool
  | _, [] => true
  | lo, (a, b) :: rest => decide (lo ≤ a) && decide (b ≠ erasedByte) && nvWfFrom (a + 1) rest

/-- The canonical form of the catalogue memory. -/
def nvWf (m : List Host.Cell) : Bool := nvWfFrom 0 m

/-- Address of byte `i` of a page of a bank (R158). -/
def nvAddress (bank : Bank) (page i : Nat) : Nat := bank.val * 2048 + page * 32 + i

end Sys2Proof.Machine
end

