-- ==== Sys2Proof/Machine/ModeOps.lean ====
section
/-! DEFINITION. Operations of the Catalogue Memory (R159, R160, R169), of the resets (R173) and of the modes (R22, R172, R176,
R181). -/

namespace Sys2Proof.Machine

/-! ## Banks (R158 to R160) -/

/-- The marker bytes of a bank. -/
def markerBytes (nv : List Host.Cell) (b : Bank) : List Byte := nvReadList (nvAddress b 63 4) 4 nv

/-- The stored generation of a bank. -/
def storedGeneration (nv : List Host.Cell) (b : Bank) : Word :=
  wordOf (nvRead (nvAddress b 63 0) nv) (nvRead (nvAddress b 63 1) nv) (nvRead (nvAddress b 63 2) nv)
    (nvRead (nvAddress b 63 3) nv)

/-- The stored CRC-32 of a bank, in bytes 28 to 31 of page 62. -/
def storedCrc (nv : List Host.Cell) (b : Bank) : Word :=
  wordOf (nvRead (nvAddress b 62 28) nv) (nvRead (nvAddress b 62 29) nv) (nvRead (nvAddress b 62 30) nv)
    (nvRead (nvAddress b 62 31) nv)

/-- The 1194 catalogue bytes of a bank. -/
def storedCatalogueBytes (nv : List Host.Cell) (b : Bank) : List Byte := nvReadList (nvAddress b 0 0) 1194 nv

/-- A bank is classified (R160). -/
def classifyBank (nv : List Host.Cell) (b : Bank) : BankCondition :=
  if markerBytes nv b ≠ validMarker then .unmarked
  else if storedGeneration nv b = 0#32 ∨ storedGeneration nv b = 0xFFFFFFFF#32 then .corrupt
  else if imageCrc (storedCatalogueBytes nv b) (storedGeneration nv b) ≠ storedCrc nv b then .corrupt
  else
    match parseCatalogue (storedCatalogueBytes nv b) with
    | some cat => .valid (storedGeneration nv b) cat
    | none => .corrupt

/-- The choice of the active bank by Table 9-4 (R162): bank, generation and catalogue, or none. -/
def chooseBank : BankCondition → BankCondition → Option (Bank × Word × Catalogue)
  | .valid g0 c0, .valid g1 c1 => if g0.toNat < g1.toNat then some (1, g1, c1) else some (0, g0, c0)
  | .valid g0 c0, .unmarked => some (0, g0, c0)
  | .valid g0 c0, .corrupt => some (0, g0, c0)
  | .unmarked, .valid g1 c1 => some (1, g1, c1)
  | .corrupt, .valid g1 c1 => some (1, g1, c1)
  | .unmarked, .unmarked => none
  | .unmarked, .corrupt => none
  | .corrupt, .unmarked => none
  | .corrupt, .corrupt => none

/-- Replace the contents of the catalogue memory. -/
def State.setNv (s : State) (nv : List Host.Cell) : State := { s with cm := { s.cm with nv := nv } }

/-- A bank found CORRUPT posts NV_FAULT (R163). -/
def State.postBankFault (s : State) (b : Bank) (c : BankCondition) : State :=
  match c with
  | .corrupt => s.postAttention (.nvFault b)
  | .unmarked => s
  | .valid _ _ => s

/-! ## An operation that is stopped (R169, R170) -/

/-- The free bytes of the n-th stopped operation (log 10). -/
def freeBytes (n count : Nat) : List Byte := (List.range count).map fun i => Config.freeByte (32 * n + i)

/-- 32 bytes of a marker page in which the valid marker is not present: the marker bytes of a page that hold it are taken as
erased. From the moment the erase of page 63 begins the marker is not present, whatever becomes of the commit (R166). -/
def withoutMarker (page : List Byte) : List Byte :=
  if (page.drop 4).take 4 = validMarker then page.take 4 ++ List.replicate 4 0xFF#8 ++ page.drop 8 else page

/-- The bytes of a page of a bank. -/
def pageBytes (nv : List Host.Cell) (b : Bank) (page : Nat) : List Byte := nvReadList (nvAddress b page 0) 32 nv

/-- The bytes of `old` with any of the bits that `wanted` clears cleared in them: a programming that stopped where it stands. -/
def partlyProgrammed (old wanted free : List Byte) : List Byte :=
  List.zipWith (fun o p => o &&& p) old (List.zipWith (fun w f => w ||| f) wanted free)

/-- What the page of the operation in progress holds when the operation is stopped (R169, R170). An erase leaves free bytes; a
programming has cleared some of the bits it was to clear; the marker is present in no case. -/
def stoppedPage (nv : List Host.Cell) (cat : Catalogue) (r : CommitRecord) (n : Nat) : List Byte :=
  let old := pageBytes nv r.target r.page.val
  match r.phase with
  | .erase => if r.page = 63 then withoutMarker (freeBytes n 32) else freeBytes n 32
  | .program => partlyProgrammed old (imagePage cat r.generation r.page.val) (freeBytes n 32)
  | .markGeneration => partlyProgrammed (old.take 4) (wordBytes r.generation) (freeBytes n 4) ++ old.drop 4
  | .markMarker =>
    withoutMarker (old.take 4 ++ partlyProgrammed ((old.drop 4).take 4) validMarker (freeBytes n 4) ++ old.drop 8)

/-- The erase or program operation of a running commit stops where it stands. -/
def State.stopOperation (s : State) : State :=
  match s.cm.commit with
  | some r =>
    { s with cm := { s.cm with nv := nvWriteList (nvAddress r.target r.page.val 0)
                                 (stoppedPage s.cm.nv s.cu.catalogue r s.freeCount) s.cm.nv }
             freeCount := s.freeCount + 1 }
  | none => s

/-! ## Resets (R173) -/

/-- A reset of any kind: every block takes its reset state and the mode becomes BOOT. Kept are the banks (R158, R170), the levels
of STOPIN and RST, the queue of waiting commands, and what the kind of reset keeps or sets: freeze flag and start choice. -/
def State.takeReset (s : State) (cause : ResetCause) (choice : StartChoice) (freeze : Bool) : State :=
  let s1 := s.stopOperation
  { State.reset with
    mc := { State.reset.mc with cause := cause, startChoice := choice, stopin := s.mc.stopin, rst := s.mc.rst }
    cu := { State.reset.cu with freeze := freeze }
    cm := { State.reset.cm with nv := s1.cm.nv }
    freeCount := s1.freeCount
    pending := s.pending }

/-! ## Modes (R22, R172, R176, R181) -/

/-- A zone runtime record as the part enters service (R22). -/
def setUpZone (r : ZoneRecord) : ZoneState := { closed := r.startClosed, holders := [], fences := 0 }

/-- The Grant Engine sets up the zone state table (R22). -/
def State.setUpZones (s : State) : State :=
  { s with ge := { s.ge with zones := s.cu.catalogue.zones.map setUpZone } }

/-- The part enters service (R176). -/
def State.enterService (s : State) : State :=
  { s with mc := { s.mc with mode := if s.mc.stopin then .hold else .serving, holdLine := s.mc.stopin,
                             holdCommand := false } }.setUpZones

/-- The mode leaves BOOT: the clock starts with its first tick, and the receiver enters HUNT (R66, R123). -/
def State.leaveBoot (s : State) : State :=
  { s with lt := { s.lt with tick := some s.cu.catalogue.params.tickPeriod }, li := { s.li with receiver := .hunt } }

/-- The hold reasons have changed in SERVING or HOLD: with a reason present the mode is HOLD; when the last one is removed in HOLD
the mode becomes SERVING and one grant scan runs (R63, R172, R181). -/
def State.followReasons (s : State) : State :=
  if s.mc.holdCommand ∨ s.mc.holdLine then { s with mc := { s.mc with mode := .hold } }
  else if s.mc.mode = .hold then { s with mc := { s.mc with mode := .serving } }.requestScan
  else s

end Sys2Proof.Machine
end

