-- ==== Sys2Proof/Machine/CatalogueCommands.lean ====
section
/-! DEFINITION. The commands on the working catalogue: SET_ZONE, SET_CLIENT, SET_PARAMETERS, CLEAR_CATALOGUE, REVERT, the three
catalogue reads and FREEZE (Chapter 1). -/

namespace Sys2Proof.Machine

/-- The first three checks of R6, and then the command's own rule. -/
def State.checkEdit (s : State) (accepted : State) : State :=
  if s.mc.mode ≠ .config then s.respond .wrongMode []
  else if s.cu.freeze then s.respond .frozen []
  else if s.cm.commit.isSome then s.respond .busy []
  else accepted

/-- The runtime record of a slot after its catalogue record changed: brought into use or taken out of use when the enabled flag
changed (R9), kept otherwise. -/
def recordAfterEdit (before after : Bool) (r : ClientRuntime) : ClientRuntime := if before = after then r else freshClient

/-- The working catalogue is replaced and the Client Table is told of every change of an enabled flag (R1, R9). -/
def State.replaceCatalogue (s : State) (cat : Catalogue) (dirty : Bool) : State :=
  { s with
    cu := { s.cu with catalogue := cat, dirty := dirty }
    ct := Vector.ofFn fun c : Slot => recordAfterEdit s.cu.catalogue.clients[c].enabled cat.clients[c].enabled s.ct[c] }

/-- SET ZONE's own rule (R7). -/
def decideSetZone (copy : Block) (s : State) : State :=
  s.checkEdit <|
    match zoneOfByte (blockArg copy 0), parseZoneRecord (blockArgs copy 1) with
    | some z, some r =>
      { s with cu := { s.cu with catalogue := { s.cu.catalogue with zones := s.cu.catalogue.zones.set z r },
                                 dirty := true } }.respond .doneOk []
    | _, _ => s.respond .badArgument []

/-- SET_ZONE (R7). -/
def execSetZone (s : State) : Host.Outcome State Fault Refusal := .next (s.execute 0x10#8 decideSetZone)

/-- Another slot's record is enabled with the same bus address as the new record of slot `c` (R8). -/
def State.addressTaken (s : State) (c : Slot) (r : ClientRecord) : Bool :=
  r.enabled && (List.finRange 32).any fun d => decide (d ≠ c) && s.inUse d && s.addressOf d == r.address

/-- SET CLIENT's own rule (R8). -/
def decideSetClient (copy : Block) (s : State) : State :=
  s.checkEdit <|
    match slotOfByte (blockArg copy 0), parseClientRecord (blockArgs copy 1) with
    | some c, some r =>
      if s.addressTaken c r then s.respond .badArgument []
      else (s.replaceCatalogue { s.cu.catalogue with clients := s.cu.catalogue.clients.set c r } true).respond .doneOk []
    | _, _ => s.respond .badArgument []

/-- SET_CLIENT (R8). -/
def execSetClient (s : State) : Host.Outcome State Fault Refusal := .next (s.execute 0x11#8 decideSetClient)

/-- SET PARAMETERS' own rule (R10). -/
def decideSetParameters (copy : Block) (s : State) : State :=
  s.checkEdit <|
    match parseParameters (blockArgs copy 0) with
    | some p =>
      { s with cu := { s.cu with catalogue := { s.cu.catalogue with params := p }, dirty := true } }.respond .doneOk []
    | none => s.respond .badArgument []

/-- SET_PARAMETERS (R10). -/
def execSetParameters (s : State) : Host.Outcome State Fault Refusal := .next (s.execute 0x12#8 decideSetParameters)

/-- CLEAR CATALOGUE's own rule (R11). -/
def decideClearCatalogue (_copy : Block) (s : State) : State :=
  s.checkEdit ((s.replaceCatalogue emptyCatalogue true).respond .doneOk [])

/-- CLEAR_CATALOGUE (R11). -/
def execClearCatalogue (s : State) : Host.Outcome State Fault Refusal := .next (s.execute 0x13#8 decideClearCatalogue)

/-- REVERT's own rule (R12). -/
def decideRevert (_copy : Block) (s : State) : State :=
  s.checkEdit <|
    match s.cm.active with
    | none => s.respond .notFound []
    | some (b, _) =>
      match classifyBank s.cm.nv b with
      | .valid _ cat => (s.replaceCatalogue cat false).respond .doneOk []
      | .unmarked => (s.postAttention (.nvFault b)).respond .nvFailed []
      | .corrupt => (s.postAttention (.nvFault b)).respond .nvFailed []

/-- REVERT (R12). -/
def execRevert (s : State) : Host.Outcome State Fault Refusal := .next (s.execute 0x14#8 decideRevert)

/-- A command that every mode but BOOT accepts (Table 8-2). -/
def State.checkNotBoot (s : State) (accepted : State) : State :=
  if s.mc.mode = .boot then s.respond .wrongMode [] else accepted

/-- READ ZONE RECORD's own rule (R17). -/
def decideReadZoneRecord (copy : Block) (s : State) : State :=
  s.checkNotBoot <|
    match zoneOfByte (blockArg copy 0) with
    | some z => s.respond .doneOk (zoneRecordBytes s.cu.catalogue.zones[z])
    | none => s.respond .badArgument []

/-- READ_ZONE_RECORD (R17). -/
def execReadZoneRecord (s : State) : Host.Outcome State Fault Refusal := .next (s.execute 0x15#8 decideReadZoneRecord)

/-- READ CLIENT RECORD's own rule (R17). -/
def decideReadClientRecord (copy : Block) (s : State) : State :=
  s.checkNotBoot <|
    match slotOfByte (blockArg copy 0) with
    | some c => s.respond .doneOk (clientRecordBytes s.cu.catalogue.clients[c])
    | none => s.respond .badArgument []

/-- READ_CLIENT_RECORD (R17). -/
def execReadClientRecord (s : State) : Host.Outcome State Fault Refusal := .next (s.execute 0x16#8 decideReadClientRecord)

/-- READ PARAMETERS' own rule (R17). -/
def decideReadParameters (_copy : Block) (s : State) : State :=
  s.checkNotBoot (s.respond .doneOk (parameterBytes s.cu.catalogue.params))

/-- READ_PARAMETERS (R17). -/
def execReadParameters (s : State) : Host.Outcome State Fault Refusal := .next (s.execute 0x17#8 decideReadParameters)

/-- FREEZE's own rule (R15). -/
def decideFreeze (_copy : Block) (s : State) : State :=
  s.checkNotBoot ({ s with cu := { s.cu with freeze := true } }.respond .doneOk [])

/-- FREEZE (R15). -/
def execFreeze (s : State) : Host.Outcome State Fault Refusal := .next (s.execute 0x18#8 decideFreeze)

end Sys2Proof.Machine
end

