-- ==== Sys2Proof/Machine/ZoneCommands.lean ====
section
/-! DEFINITION. The supervisor commands on zones, bundles, the pending list and the clock (2.5, R58, R64, R84). -/

namespace Sys2Proof.Machine

/-- A command that only SERVING and HOLD accept (Tables 2-7 and 8-2). -/
def State.checkInService (s : State) (accepted : State) : State :=
  if s.inService then accepted else s.respond .wrongMode []

/-- CLOSE ZONE's own rule (R41). -/
def decideCloseZone (copy : Block) (s : State) : State :=
  s.checkInService <|
    match zoneOfByte (blockArg copy 0) with
    | some z => (s.setZone z { s.ge.zones[z] with closed := true }).respond .doneOk []
    | none => s.respond .badArgument []

/-- CLOSE_ZONE (R41). -/
def execCloseZone (s : State) : Host.Outcome State Fault Refusal := .next (s.execute 0x20#8 decideCloseZone)

/-- OPEN ZONE's own rule (R42): a scan is requested when the flag was closed. -/
def decideOpenZone (copy : Block) (s : State) : State :=
  s.checkInService <|
    match zoneOfByte (blockArg copy 0) with
    | some z =>
      if s.ge.zones[z].closed then
        (s.setZone z { s.ge.zones[z] with closed := false }).requestScan.respond .doneOk []
      else s.respond .doneOk []
    | none => s.respond .badArgument []

/-- OPEN_ZONE (R42). -/
def execOpenZone (s : State) : Host.Outcome State Fault Refusal := .next (s.execute 0x21#8 decideOpenZone)

/-- CLEAR FENCE's own rule (R43). -/
def decideClearFence (copy : Block) (s : State) : State :=
  s.checkInService <|
    match zoneOfByte (blockArg copy 0) with
    | some z =>
      if s.ge.zones[z].fences = 0 then s.respond .notFound []
      else
        (s.setZone z { s.ge.zones[z] with fences := 0 }).requestScan.respond .doneOk [numByte s.ge.zones[z].fences]
    | none => s.respond .badArgument []

/-- CLEAR_FENCE (R43). -/
def execClearFence (s : State) : Host.Outcome State Fault Refusal := .next (s.execute 0x22#8 decideClearFence)

/-- The number of zones that become fences when `zones` end under one disposition (R44, R97). -/
def zonesFenced (d : ExpiryPolicy) (zones : Nat) : Nat :=
  match d with
  | .free => 0
  | .fence => zones

/-- REVOKE BUNDLE's own rule (R44). -/
def decideRevokeBundle (copy : Block) (s : State) : State :=
  s.checkInService <|
    match bundleOfByte (blockArg copy 0), policyOfByte (blockArg copy 1) with
    | some b, some d =>
      match s.ge.bundles[b] with
      | some x =>
        let s1 := (s.endBundle b fun _ => d).postNotice x.holder (.revoked b x.tag (markedZones x.zones fun _ => d))
        s1.requestScan.respond .doneOk
          [numByte x.holder.val, numByte x.zones.length, numByte (zonesFenced d x.zones.length)]
      | none => s.respond .notFound []
    | _, _ => s.respond .badArgument []

/-- REVOKE_BUNDLE (R44). -/
def execRevokeBundle (s : State) : Host.Outcome State Fault Refusal := .next (s.execute 0x23#8 decideRevokeBundle)

/-- The holders of a zone as READ ZONE STATE gives them: bundle id and client slot, in grant order (R45). -/
def State.holderBytes (s : State) (holders : List BundleId) : List Byte :=
  holders.flatMap fun b => [numByte b.val, match s.ge.bundles[b] with | some x => numByte x.holder.val | none => 0#8]

/-- READ ZONE STATE's own rule (R45). -/
def decideReadZoneState (copy : Block) (s : State) : State :=
  s.checkNotBoot <|
    match zoneOfByte (blockArg copy 0) with
    | some z =>
      let r := s.ge.zones[z]
      s.respond .doneOk
        ([derivedStateByte (s.derivedState z), flagByte r.closed, numByte r.fences, numByte r.holders.length] ++
          s.holderBytes r.holders)
    | none => s.respond .badArgument []

/-- READ_ZONE_STATE (R45). -/
def execReadZoneState (s : State) : Host.Outcome State Fault Refusal := .next (s.execute 0x24#8 decideReadZoneState)

/-- A bundle record with its remaining ticks, as READ BUNDLE gives it (R46). -/
def bundleBytes (now : Word) (x : Bundle) : List Byte :=
  [numByte x.holder.val, x.tag] ++ halfBytes x.token ++ halfBytes x.term ++ wordBytes x.deadline ++ [x.renews] ++
    halfBytes (lowHalf (remainingTicks now x.deadline)) ++ [numByte x.zones.length] ++ x.zones.map fun z => numByte z.val

/-- READ BUNDLE's own rule (R46). -/
def decideReadBundle (copy : Block) (s : State) : State :=
  s.checkNotBoot <|
    match bundleOfByte (blockArg copy 0) with
    | some b =>
      match s.ge.bundles[b] with
      | some x => s.respond .doneOk (bundleBytes s.lt.clock x)
      | none => s.respond .notFound []
    | none => s.respond .badArgument []

/-- READ_BUNDLE (R46). -/
def execReadBundle (s : State) : Host.Outcome State Fault Refusal := .next (s.execute 0x25#8 decideReadBundle)

/-- The position of a client's entry, counted from 1 at the head (R49). -/
def State.positionOf (s : State) (c : Slot) : Nat := (s.ge.entries.takeWhile fun e => !(e.client == c)).length + 1

/-- WITHDRAW REQUEST's own rule (R58). -/
def decideWithdrawRequest (copy : Block) (s : State) : State :=
  s.checkInService <|
    match slotOfByte (blockArg copy 0) with
    | some c =>
      match s.entryOf c with
      | some e =>
        ((s.removeEntry c).postNotice c (.withdrawn e.tag .supervisor)).requestScan.respond .doneOk
          [e.tag, numByte (s.positionOf c)]
      | none => s.respond .notFound []
    | none => s.respond .badArgument []

/-- WITHDRAW_REQUEST (R58). -/
def execWithdrawRequest (s : State) : Host.Outcome State Fault Refusal := .next (s.execute 0x26#8 decideWithdrawRequest)

/-- A pending entry as READ PENDING gives it (R64). -/
def entryBytes (length : Nat) (now : Word) (e : Entry) : List Byte :=
  [numByte length, numByte e.client.val, e.tag] ++ halfBytes e.term ++ halfBytes e.arrival ++ wordBytes e.stamp ++
    wordBytes (waitingTime now e.stamp) ++ [flagByte e.alarmed, numByte e.zones.length] ++
    e.zones.map fun z => numByte z.val

/-- READ PENDING's own rule (R64). -/
def decideReadPending (copy : Block) (s : State) : State :=
  s.checkNotBoot <|
    let position := (blockArg copy 0).toNat
    if position = 0 ∨ position > 32 then s.respond .badArgument []
    else
      match s.ge.entries[position - 1]? with
      | some e => s.respond .doneOk (entryBytes s.ge.entries.length s.lt.clock e)
      | none => s.respond .notFound [numByte s.ge.entries.length]

/-- READ_PENDING (R64). -/
def execReadPending (s : State) : Host.Outcome State Fault Refusal := .next (s.execute 0x27#8 decideReadPending)

/-- The head of the expiry queue as READ LEASE CLOCK gives it: presence, bundle id, deadline, remaining ticks; absent fields read
00H (R84, R183). -/
def State.queueHeadBytes (s : State) : List Byte :=
  match s.lt.queue with
  | b :: _ =>
    [1#8, numByte b.val] ++ wordBytes (s.deadlineOf b) ++ halfBytes (lowHalf (remainingTicks s.lt.clock (s.deadlineOf b)))
  | [] => List.replicate 8 0#8

/-- The tick period of the tick in progress, in ms (R84). -/
def State.tickPeriodNow (s : State) : Nat :=
  match s.lt.tick with
  | some p => p
  | none => 0

/-- READ LEASE CLOCK's own rule (R84). -/
def decideReadLeaseClock (_copy : Block) (s : State) : State :=
  s.checkNotBoot <|
    s.respond .doneOk
      (wordBytes s.lt.clock ++ [numByte s.tickPeriodNow, numByte s.lt.queue.length] ++ s.queueHeadBytes ++
        [numByte (s.ge.entries.countP fun e => e.alarmed)])

/-- READ_LEASE_CLOCK (R84). -/
def execReadLeaseClock (s : State) : Host.Outcome State Fault Refusal := .next (s.execute 0x28#8 decideReadLeaseClock)

end Sys2Proof.Machine
end

