-- ==== Sys2Proof/Machine/ClientCommands.lean ====
section
/-! DEFINITION. The supervisor commands on clients and attention: BAR_CLIENT, UNBAR_CLIENT, READ_CLIENT_STATE (Chapter 5) and
FETCH_ATTENTION (R155). -/

namespace Sys2Proof.Machine

/-- The effects of a bar on a client that is not BARRED (R97), as one claim, with the discard mark of an exchange in flight (R140). -/
def State.barClient (s : State) (c : Slot) (d : ExpiryPolicy) : State :=
  let s1 := (s.endBundles (s.bundlesOf c) fun _ => d).removeEntry c
  let s2 := s1.setClient c { s1.ct[c] with state := .barred, session := none, misses := 0, last := none, outbox := [] }
  (s2.markDiscard c).requestScan

/-- The number of zone units of a client's bundles. -/
def State.unitsHeld (s : State) (c : Slot) : Nat := ((s.bundlesOf c).map fun b => (s.zonesOfBundle b).length).sum

/-- BAR CLIENT's own rule (R96, R97). -/
def decideBarClient (copy : Block) (s : State) : State :=
  s.checkNotBoot <|
    match slotOfByte (blockArg copy 0), policyOfByte (blockArg copy 1) with
    | some c, some d =>
      if !s.inUse c then s.respond .notFound []
      else if s.ct[c].state = .barred then s.respond .doneOk [clientStateByte .barred, 0#8, 0#8, 0#8]
      else
        (s.barClient c d).respond .doneOk
          [clientStateByte s.ct[c].state, numByte (s.bundlesOf c).length, numByte (zonesFenced d (s.unitsHeld c)),
            flagByte (s.entryOf c).isSome]
    | _, _ => s.respond .badArgument []

/-- BAR_CLIENT (R97). -/
def execBarClient (s : State) : Host.Outcome State Fault Refusal := .next (s.execute 0x30#8 decideBarClient)

/-- UNBAR CLIENT's own rule (R96, R98). -/
def decideUnbarClient (copy : Block) (s : State) : State :=
  s.checkNotBoot <|
    match slotOfByte (blockArg copy 0) with
    | some c =>
      if !s.inUse c then s.respond .notFound []
      else if s.ct[c].state = .barred then (s.setClient c { s.ct[c] with state := .absent }).respond .doneOk []
      else s.respond .notFound []
    | none => s.respond .badArgument []

/-- UNBAR_CLIENT (R98). -/
def execUnbarClient (s : State) : Host.Outcome State Fault Refusal := .next (s.execute 0x31#8 decideUnbarClient)

/-- Presence byte and value of an optional byte (R183). -/
def optionalByte : Option Byte → List Byte
  | some b => [1#8, b]
  | none => [0#8, 0#8]

/-- Presence byte and value of an optional two-byte field (R183). -/
def optionalHalf : Option Half → List Byte
  | some h => 1#8 :: halfBytes h
  | none => [0#8, 0#8, 0#8]

/-- A client's runtime record as READ CLIENT STATE gives it (R108). -/
def State.clientBytes (s : State) (c : Slot) : List Byte :=
  let r := s.ct[c]
  let bundles := s.bundlesOf c
  [clientStateByte r.state, numByte (s.addressOf c)] ++ optionalHalf r.session ++ [numByte r.misses, numByte bundles.length] ++
    (((bundles.map fun b => numByte b.val) ++ List.replicate 4 0#8).take 4) ++
    optionalByte ((s.entryOf c).map fun e => e.tag) ++ [numByte r.outbox.length] ++
    optionalByte (r.outbox.head?.map fun n => n.seq) ++ [r.nextNotice] ++
    optionalByte (r.last.map fun a => a.seq.zeroExtend 8)

/-- READ CLIENT STATE's own rule (R96, R108). -/
def decideReadClientState (copy : Block) (s : State) : State :=
  s.checkNotBoot <|
    match slotOfByte (blockArg copy 0) with
    | some c => if !s.inUse c then s.respond .notFound [] else s.respond .doneOk (s.clientBytes c)
    | none => s.respond .badArgument []

/-- READ_CLIENT_STATE (R108). -/
def execReadClientState (s : State) : Host.Outcome State Fault Refusal := .next (s.execute 0x32#8 decideReadClientState)

/-- The Attention Set after a fetch (R155): the oldest entry is removed, and the overflow flag is clear when the set is empty. -/
def AttentionSet.fetch (a : AttentionSet) : AttentionSet :=
  { entries := a.entries.tail, overflow := a.overflow && !a.entries.tail.isEmpty }

/-- The contents of a fetch: the entry removed, the entries remaining and the overflow flag (R155). -/
def fetchBytes (a : AttentionSet) : List Byte :=
  (match a.entries with
    | e :: _ => [1#8, attentionKindByte e.what, attentionSubjectByte e.what] ++ wordBytes e.stamp ++ [e.count]
    | [] => List.replicate 8 0#8) ++
    [numByte a.fetch.entries.length, flagByte a.fetch.overflow]

/-- FETCH ATTENTION's own rule (R155). -/
def decideFetchAttention (_copy : Block) (s : State) : State :=
  s.checkNotBoot ({ s with attn := s.attn.fetch }.respond .doneOk (fetchBytes s.attn))

/-- FETCH_ATTENTION (R155). -/
def execFetchAttention (s : State) : Host.Outcome State Fault Refusal := .next (s.execute 0x38#8 decideFetchAttention)

end Sys2Proof.Machine
end

