-- ==== Sys2Proof/Machine/Commit.lean ====
section
/-! DEFINITION. COMMIT and the steps of a running commit (Chapter 9). -/

namespace Sys2Proof.Machine

/-- The bank that is not `b`. -/
def otherBank (b : Bank) : Bank := if b = 0 then 1 else 0

/-- The target bank and the new generation of a commit (steps 1 and 2 of R165). -/
def commitTarget (active : Option (Bank × Word)) : Bank × Word :=
  match active with
  | some (b, g) => (otherBank b, g + 1#32)
  | none => (0, 1#32)

/-- The active generation is FFFFFFFEH, so that no further commit can be made (check 5 of R164). -/
def generationSpent (active : Option (Bank × Word)) : Bool :=
  match active with
  | some (_, g) => g == 0xFFFFFFFE#32
  | none => false

/-- A COMMIT is accepted (R165): target, generation, record, RUNNING, and the erase of the target's page 63 begins, from which moment
its marker is not present (R166; log 11). -/
def State.beginCommit (s : State) : State :=
  let t := commitTarget s.cm.active
  { s with cm := { s.cm with
      nv := nvWriteList (nvAddress t.1 63 0) (List.replicate 32 erasedByte) s.cm.nv
      commitState := .running
      commit := some { target := t.1, generation := t.2, phase := .erase, page := 63 } } }

/-- COMMIT's checks (R164). An accepted COMMIT keeps the mailbox BUSY with no response until its end (R150). -/
def decideCommit (nvwe : Bool) (_copy : Block) (s : State) : State :=
  if s.mc.mode ≠ .config then s.respond .wrongMode []
  else if s.cu.freeze then s.respond .frozen []
  else if s.cm.commit.isSome then s.respond .busy []
  else if nvwe = false then s.respond .nvProtected []
  else if generationSpent s.cm.active then s.respond .nvFailed [0xFF#8, commitCauseByte .generation, 0xFF#8]
  else s.beginCommit

/-- COMMIT (R164, R165). -/
def execCommit (nvwe : Bool) (s : State) : Host.Outcome State Fault Refusal := .next (s.execute 0x19#8 (decideCommit nvwe))

/-- A commit fails (R169): NV_FAULT, FAILED, and NV_FAILED with the target, the cause and the page. -/
def State.failCommit (s : State) (r : CommitRecord) (cause : CommitCause) : State :=
  let s1 := s.postAttention (.nvFault r.target)
  let s2 := { s1 with cm := { s1.cm with commit := none, commitState := .failed } }
  s2.respond .nvFailed [numByte r.target.val, commitCauseByte cause, numByte r.page.val]

/-- The commit succeeds (R168): the target becomes the active bank, the dirty flag clears, SUCCEEDED, and DONE_OK with the bank and the
generation. -/
def State.endCommit (s : State) (r : CommitRecord) : State :=
  let s1 :=
    { s with
      cm := { s.cm with active := some (r.target, r.generation), commit := none, commitState := .succeeded }
      cu := { s.cu with dirty := false } }
  s1.respond .doneOk (numByte r.target.val :: wordBytes r.generation)

/-- The commit goes on in a phase, at a page. -/
def State.continueCommit (s : State) (r : CommitRecord) (phase : CommitPhase) (page : Fin 64) : State :=
  { s with cm := { s.cm with commit := some { r with phase := phase, page := page } } }

/-- 32 bytes of a page, from what is read back: bytes that are not given read FFH. -/
def fullPage (readBack : List Byte) : List Byte := (readBack ++ List.replicate 32 0xFF#8).take 32

/-- What the erase of a page has left in it. Page 63 does not hold the marker any more (R166). -/
def erasedPage (page : Fin 64) (readBack : List Byte) : List Byte :=
  if page = 63 then withoutMarker (fullPage readBack) else fullPage readBack

/-- The erase of the current page completes and is read back (R166): page 63 first, then 0 to 62, then PROGRAM. -/
def State.eraseDone (s : State) (r : CommitRecord) (readBack : List Byte) : State :=
  let page := erasedPage r.page readBack
  let s1 := s.setNv (nvWriteList (nvAddress r.target r.page.val 0) page s.cm.nv)
  if page.all fun b => b == erasedByte then
    if r.page = 63 then s1.continueCommit r .erase 0
    else if r.page = 62 then s1.continueCommit r .program 0
    else s1.continueCommit r .erase (r.page + 1)
  else s1.failCommit r .erase

/-- COMMIT_ERASE_PAGE_DONE (R166). -/
def execCommitErasePageDone (readBack : List Byte) (s : State) : Host.Outcome State Fault Refusal :=
  match s.cm.commit with
  | some r => if r.phase = .erase then .next (s.eraseDone r readBack) else .next s
  | none => .next s

/-- The programming of the current page completes and is read back (R167): pages 0 to 62, then MARK at page 63. -/
def State.programDone (s : State) (r : CommitRecord) (readBack : List Byte) : State :=
  let s1 := s.setNv (nvProgramList (nvAddress r.target r.page.val 0) (fullPage readBack) s.cm.nv)
  if pageBytes s1.cm.nv r.target r.page.val = imagePage s.cu.catalogue r.generation r.page.val then
    if r.page = 62 then s1.continueCommit r .markGeneration 63 else s1.continueCommit r .program (r.page + 1)
  else s1.failCommit r .program

/-- COMMIT_PROGRAM_PAGE_DONE (R167). -/
def execCommitProgramPageDone (readBack : List Byte) (s : State) : Host.Outcome State Fault Refusal :=
  match s.cm.commit with
  | some r => if r.phase = .program then .next (s.programDone r readBack) else .next s
  | none => .next s

/-- The generation bytes have been programmed and are read back (step 1 of R168). -/
def State.generationDone (s : State) (r : CommitRecord) (readBack : List Byte) : State :=
  let s1 := s.setNv (nvProgramList (nvAddress r.target 63 0) ((fullPage readBack).take 4) s.cm.nv)
  if nvReadList (nvAddress r.target 63 0) 4 s1.cm.nv = wordBytes r.generation then s1.continueCommit r .markMarker 63
  else s1.failCommit r .program

/-- COMMIT_MARK_GENERATION_DONE (R168). -/
def execCommitMarkGenerationDone (readBack : List Byte) (s : State) : Host.Outcome State Fault Refusal :=
  match s.cm.commit with
  | some r => if r.phase = .markGeneration then .next (s.generationDone r readBack) else .next s
  | none => .next s

/-- The valid marker has been programmed and is read back (step 2 of R168). -/
def State.markerDone (s : State) (r : CommitRecord) (readBack : List Byte) : State :=
  let s1 := s.setNv (nvProgramList (nvAddress r.target 63 4) ((fullPage readBack).take 4) s.cm.nv)
  if markerBytes s1.cm.nv r.target = validMarker then s1.endCommit r else s1.failCommit r .program

/-- COMMIT_MARK_MARKER_DONE (R168). -/
def execCommitMarkMarkerDone (readBack : List Byte) (s : State) : Host.Outcome State Fault Refusal :=
  match s.cm.commit with
  | some r => if r.phase = .markMarker then .next (s.markerDone r readBack) else .next s
  | none => .next s

/-- NVWE_INACTIVE (R169): while a commit runs, the operation in progress stops where it stands and the commit fails with cause NVWE at
the current page. Outside a commit it has no effect. -/
def execNvweInactive (s : State) : Host.Outcome State Fault Refusal :=
  match s.cm.commit with
  | some r => .next (s.stopOperation.failCommit r .nvwe)
  | none => .next s

end Sys2Proof.Machine
end

