-- ==== Sys2Proof/Machine/ModeCommands.lean ====
section
/-! DEFINITION. The mode commands: START, STOP, HOLD, RESUME and RESTART (Chapter 10). -/

namespace Sys2Proof.Machine

/-- START's own rule (R177). -/
def decideStart (_copy : Block) (s : State) : State :=
  if s.mc.mode ≠ .config then s.respond .wrongMode []
  else if s.cm.commit.isSome then s.respond .busy []
  else if s.cu.dirty then s.respond .uncommitted []
  else s.enterService.respond .doneOk [modeBits s.enterService.mc.mode]

/-- START (R177). -/
def execStart (s : State) : Host.Outcome State Fault Refusal := .next (s.execute 0x40#8 decideStart)

/-- A client record at STOP (R99): JOINED and SILENT become ABSENT and keep only the next notice sequence. -/
def stoppedClient (inUse : Bool) (r : ClientRuntime) : ClientRuntime :=
  if inUse && (r.state == .joined || r.state == .silent) then
    { r with state := .absent, session := none, misses := 0, last := none, outbox := [] }
  else r

/-- The clients that STOP returns to ABSENT (R178). -/
def State.activeClients (s : State) : List Slot :=
  (List.finRange 32).filter fun c => s.inUse c && (s.ct[c].state == .joined || s.ct[c].state == .silent)

/-- The part is quiescent: no bundle, no pending entry, no fence (R178). -/
def State.quiescent (s : State) : Bool := s.liveBundles.isEmpty && s.ge.entries.isEmpty && s.fencedZones == 0

/-- An accepted STOP (R99, R178). -/
def State.stopService (s : State) : State :=
  { s with ct := Vector.ofFn fun c : Slot => stoppedClient (s.inUse c) s.ct[c], mc := { s.mc with mode := .config } }

/-- STOP's own rule (R178). -/
def decideStop (_copy : Block) (s : State) : State :=
  if s.mc.mode ≠ .serving then s.respond .wrongMode []
  else if !s.quiescent then
    s.respond .notQuiescent [numByte s.liveBundles.length, numByte s.ge.entries.length, numByte s.fencedZones]
  else s.stopService.respond .doneOk [numByte s.activeClients.length]

/-- STOP (R178). -/
def execStop (s : State) : Host.Outcome State Fault Refusal := .next (s.execute 0x41#8 decideStop)

/-- Hold reason COMMAND is set present or absent, and the mode follows (R179, R181). -/
def State.setCommand (s : State) (present : Bool) : State :=
  { s with mc := { s.mc with holdCommand := present } }.followReasons

/-- HOLD's own rule (R179). -/
def decideHold (_copy : Block) (s : State) : State :=
  s.checkInService ((s.setCommand true).respond .doneOk [(s.setCommand true).status0])

/-- HOLD (R179). -/
def execHold (s : State) : Host.Outcome State Fault Refusal := .next (s.execute 0x42#8 decideHold)

/-- RESUME's own rule (R179). -/
def decideResume (_copy : Block) (s : State) : State :=
  s.checkInService ((s.setCommand false).respond .doneOk [(s.setCommand false).status0])

/-- RESUME (R179). -/
def execResume (s : State) : Host.Outcome State Fault Refusal := .next (s.execute 0x43#8 decideResume)

/-- RESTART's own rule (R182): accepted, it sets the start choice and begins a reset of kind RESTART, which keeps the freeze flag (R16);
its response is not published (R151). -/
def decideRestart (copy : Block) (s : State) : State :=
  s.checkNotBoot <|
    match startChoiceOfByte (blockArg copy 0) with
    | some choice => s.takeReset .restart choice s.cu.freeze
    | none => s.respond .badArgument []

/-- RESTART (R182). -/
def execRestart (s : State) : Host.Outcome State Fault Refusal := .next (s.execute 0x44#8 decideRestart)

end Sys2Proof.Machine
end

