-- ==== Sys2Proof/Machine/PortEvents.lean ====
section
/-! DEFINITION. The meanings of the port rows: BAD_COMMAND, EXECUTE_OVERRUN, PUBLISH_RESPONSE, the three reads with an effect, the two
writes, TRANSACTION_BEGIN and TRANSACTION_END (Chapter 8). -/

namespace Sys2Proof.Machine

/-- BAD_COMMAND (R148): a write to EXECUTE that starts a command whose code names no command of Table 11-10 is decided BAD_COMMAND; no
block sees it. While the mailbox is BUSY it is refused as an overrun (R149). -/
def execBadCommand (s : State) : Host.Outcome State Fault Refusal :=
  if s.atExecute then
    if s.mailboxBusy then .next s.overrunWrite
    else if blockCode s.si.commandBlock ∈ commandCodes then .next s
    else .next (s.startCommand.respond .badCommand [])
  else .next s

/-- EXECUTE_OVERRUN (R149). -/
def execExecuteOverrun (s : State) : Host.Outcome State Fault Refusal :=
  if s.atExecute && s.mailboxBusy then .next s.overrunWrite else .next s

/-- PUBLISH_RESPONSE (R147). -/
def execPublishResponse (s : State) : Host.Outcome State Fault Refusal := .next s.publish

/-- READ_STATUS1 (R149): the read transaction shifts out the byte at 01H. -/
def execReadStatus1 (s : State) : Host.Outcome State Fault Refusal := .next (s.readThrough 0x01#7)

/-- READ_LEASE_CLOCK_LATCH (R146): the read transaction shifts out the byte at 04H. -/
def execReadLeaseClockLatch (s : State) : Host.Outcome State Fault Refusal := .next (s.readThrough 0x04#7)

/-- READ_RESULT_BYTE (R152): the read transaction shifts out the byte at 2AH. -/
def execReadResultByte (s : State) : Host.Outcome State Fault Refusal := .next (s.readThrough 0x2A#7)

/-- WRITE_ALERT_ENABLE (R156): the byte at 08H of a write transaction replaces both switches. -/
def execWriteAlertEnable (value : Byte) (s : State) : Host.Outcome State Fault Refusal :=
  if s.si.port = .writing 0x08#7 then
    .next { s with si := { s.si with attentionSwitch := value.getLsbD 0, completionSwitch := value.getLsbD 1,
                                     port := .writing 0x09#7 } }
  else .next s

/-- WRITE_REGISTER (R144): a byte of a write transaction at an address with no behaviour of its own. In the command block, 09H to 28H, it
is stored; anywhere else it is ignored. The address advances (R143). The bytes at 08H and 29H are other rows' steps (log 2). -/
def execWriteRegister (value : Byte) (s : State) : Host.Outcome State Fault Refusal :=
  match s.si.port with
  | .writing a =>
    if a = 0x08#7 ∨ a = 0x29#7 then .next s
    else if h : 0x09 ≤ a.toNat ∧ a.toNat ≤ 0x28 then
      .next { s with si := { s.si with commandBlock := s.si.commandBlock.set (a.toNat - 0x09) value (by omega),
                                       port := .writing (a + 1#7) } }
    else .next (s.setPort (.writing (a + 1#7)))
  | .inactive | .inert | .reading _ => .next s

/-- TRANSACTION_BEGIN (R143): the first byte holds the direction in bit 7, 1 for a read, and the start address in bits 6 to 0
(11.3). While RST is asserted the port takes no transaction (R173). A response whose publication is due has been published before a
transaction can begin (R147; log 7). No byte has been shifted out yet: SDO is driven with a value that the manual does not give, and `sdo`
holds none (DESIGN CHOICE, log 16). -/
def execTransactionBegin (first : Option Byte) (s : State) : Host.Outcome State Fault Refusal :=
  if s.mc.rst = false ∧ s.si.port = .inactive then
    match first with
    | some b => .next (s.publish.setPort (if b.getLsbD 7 then .reading (b.truncate 7) else .writing (b.truncate 7)))
    | none => .next (s.publish.setPort .inert)
  else .next s

/-- TRANSACTION_END (R143): SCS goes inactive, SDO is released, and a decided response is published at once (R147). -/
def execTransactionEnd (s : State) : Host.Outcome State Fault Refusal :=
  if s.si.port = .inactive then .next s
  else .next { s with si := { s.si with port := .inactive, sdo := none } }.publish

end Sys2Proof.Machine
end

