-- ==== Sys2Proof/Machine/Replies.lean ====
section
/-! DEFINITION. The meanings of the reply rows: IDLE, MALFORMED_REQUEST, JOIN, LEAVE, ACQUIRE, CANCEL, RENEW, RELEASE and STATUS.
Each is the delivery of a valid reply in the exchange in AWAITING, with the Client Table's handling of it, in one moment (R88,
R136, R137; log 5). A reply outside AWAITING belongs to no exchange and is discarded (R139). -/

namespace Sys2Proof.Machine

/-- IDLE (R136). -/
def execIdle (ack : Option Byte) (s : State) : Host.Outcome State Fault Refusal := .next (s.deliverReply (.idle ack))

/-- MALFORMED_REQUEST (R137). -/
def execMalformedRequest (seq : RequestSeq) (ack : Option Byte) (s : State) : Host.Outcome State Fault Refusal :=
  .next (s.deliverReply (.request seq ack .malformed))

/-- JOIN (R92, R93, R94). -/
def execJoin (seq : RequestSeq) (ack : Option Byte) (session : Half) (s : State) : Host.Outcome State Fault Refusal :=
  .next (s.deliverReply (.request seq ack (.join session)))

/-- LEAVE (R95). -/
def execLeave (seq : RequestSeq) (ack : Option Byte) (s : State) : Host.Outcome State Fault Refusal :=
  .next (s.deliverReply (.request seq ack .leave))

/-- ACQUIRE (R30 to R37). -/
def execAcquire (seq : RequestSeq) (ack : Option Byte) (tag : Byte) (wait : Bool) (term : Half) (zones : List Byte)
    (s : State) : Host.Outcome State Fault Refusal :=
  .next (s.deliverReply (.request seq ack (.acquire tag wait term zones)))

/-- CANCEL (R57). -/
def execCancel (seq : RequestSeq) (ack : Option Byte) (tag : Byte) (s : State) : Host.Outcome State Fault Refusal :=
  .next (s.deliverReply (.request seq ack (.cancel tag)))

/-- RENEW (R74 to R77). -/
def execRenew (seq : RequestSeq) (ack : Option Byte) (bundle : Byte) (token term : Half) (s : State) :
    Host.Outcome State Fault Refusal :=
  .next (s.deliverReply (.request seq ack (.renew bundle token term)))

/-- RELEASE (R38, R39). -/
def execRelease (seq : RequestSeq) (ack : Option Byte) (bundle : Byte) (token : Half) (zone : Byte) (s : State) :
    Host.Outcome State Fault Refusal :=
  .next (s.deliverReply (.request seq ack (.release bundle token zone)))

/-- STATUS (R107). -/
def execStatus (seq : RequestSeq) (ack : Option Byte) (s : State) : Host.Outcome State Fault Refusal :=
  .next (s.deliverReply (.request seq ack .status))

end Sys2Proof.Machine
end

