-- ==== Sys2Proof/Machine/Resets.lean ====
section
/-! DEFINITION. The meanings of POWER_ON_RESET, LINE_RESET, RST_RELEASED and CATALOGUE_LOAD (Chapters 9 and 10). -/

namespace Sys2Proof.Machine

/-- POWER_ON_RESET (R173): every reset state, cause POWER-ON, freeze flag clear, start choice AUTO. When RST is asserted as the
supply comes up the part stays in reset until RST is released, and the cause stays POWER-ON. -/
def execPowerOnReset (s : State) : Host.Outcome State Fault Refusal := .next (s.takeReset .powerOn .auto false)

/-- LINE_RESET (R173): an assertion of RST begins a reset with cause LINE and holds the part in reset. RST that is asserted already
is not asserted anew (log 2). -/
def execLineReset (s : State) : Host.Outcome State Fault Refusal :=
  if s.mc.rst then .next s
  else
    let s1 := s.takeReset .line .auto false
    .next { s1 with mc := { s1.mc with rst := true } }

/-- RST_RELEASED (R173): the part leaves reset and BOOT begins. -/
def execRstReleased (s : State) : Host.Outcome State Fault Refusal := .next { s with mc := { s.mc with rst := false } }

/-- The mode that follows BOOT is chosen by Table 10-3 (R175). With AUTOSTART, the start choice AUTO and an active bank the part
enters service; otherwise it enters CONFIG. The start choice becomes AUTO. -/
def State.endBoot (s : State) (found : Bool) : State :=
  let s1 := s.leaveBoot
  let s2 :=
    if found = true ∧ s.mc.startChoice = .auto ∧ s.cu.catalogue.params.autostart = true then s1.enterService
    else { s1 with mc := { s1.mc with mode := .config } }
  { s2 with mc := { s2.mc with startChoice := .auto } }

/-- The Catalogue Unit takes the catalogue that the load chose, and the Catalogue Memory its active bank (Table 9-4, R163): the dirty
flag is clear with an active bank and set with none, when the empty catalogue is set. The client records that come into use have
the values of Table 5-6 (R109). -/
def State.takeLoad (s : State) (choice : Option (Bank × Word × Catalogue)) : State :=
  let s1 := { s with ct := Vector.replicate 32 freshClient }
  match choice with
  | some (b, g, cat) =>
    { s1 with cm := { s1.cm with active := some (b, g) }, cu := { s1.cu with catalogue := cat, dirty := false } }
  | none => { s1 with cm := { s1.cm with active := none }, cu := { s1.cu with catalogue := emptyCatalogue, dirty := true } }

/-- The end of the load (R162, R163, R175): faults, bank 0 before bank 1; the catalogue; the mode. -/
def State.loadCatalogue (s : State) : State :=
  let c0 := classifyBank s.cm.nv 0
  let c1 := classifyBank s.cm.nv 1
  let choice := chooseBank c0 c1
  (((s.postBankFault 0 c0).postBankFault 1 c1).takeLoad choice).endBoot choice.isSome

/-- CATALOGUE_LOAD (R162): in BOOT, once RST is released, the load ends. Outside BOOT no load is made. -/
def execCatalogueLoad (s : State) : Host.Outcome State Fault Refusal :=
  if s.mc.mode = .boot ∧ s.mc.rst = false then .next s.loadCatalogue else .next s

end Sys2Proof.Machine
end

