-- ==== Sys2Proof/Machine/Time.lean ====
section
/-! DEFINITION. The meanings of TICK, LAPSE, WAIT_ALARM_EXAMINATION, STOPIN_ASSERTED and STOPIN_DEASSERTED (Chapters 4 and 10). -/

namespace Sys2Proof.Machine

/-- A tick ends (R66, R71): the clock advances by one modulo 2^32 and the next tick begins with the tick period as it stands (R67).
The examinations of this tick are opened: that of the expiry queue while its head has passed (R71), that of the wait alarm when the
parameter is not 0 (R80). -/
def State.endTick (s : State) : State :=
  let s1 := { s with lt := { s.lt with clock := s.lt.clock + 1#32, tick := some s.cu.catalogue.params.tickPeriod } }
  { s1 with lt := { s1.lt with lapseOpen := s1.passedHead.isSome,
                               alarmOpen := !(s.cu.catalogue.params.waitAlarm == 0#16) } }

/-- TICK (R71). While the clock is stopped no tick is in progress, so none ends (R66). -/
def execTick (s : State) : Host.Outcome State Fault Refusal :=
  match s.lt.tick with
  | some _ => .next s.endTick
  | none => .next s

/-- A bundle lapses (R72): it ends under its zones' policies, LAPSED is posted to its holder, and in SERVING a scan runs. -/
def State.lapseBundle (s : State) (b : BundleId) : State :=
  match s.ge.bundles[b] with
  | some x =>
    ((s.endBundle b s.policyOf).postNotice x.holder (.lapsed b x.tag (markedZones x.zones s.policyOf))).requestScan
  | none => s.removeBundle b

/-- The examination goes on while the head's deadline has passed, and ends otherwise (R71). -/
def State.examineHead (s : State) : State := { s with lt := { s.lt with lapseOpen := s.passedHead.isSome } }

/-- LAPSE (R71, R72): in the examination that the last tick opened, the bundle at the head lapses and the new head is examined. A bundle
that a silence cut with grace 0 puts at the head while the examination is open lapses in it, as R71 takes any passed head; the next tick
that R78 speaks of is the one at which it lapses when the examination is over (DESIGN CHOICE, log 8). -/
def execLapse (s : State) : Host.Outcome State Fault Refusal :=
  if s.lt.lapseOpen then
    match s.passedHead with
    | some b => .next (s.lapseBundle b).examineHead
    | none => .next s.examineHead
  else .next s

/-- A pending entry posts WAITING at this examination (R80). -/
def State.alarmDue (s : State) (e : Entry) : Bool :=
  !e.alarmed && decide (s.cu.catalogue.params.waitAlarm.toNat ≤ (waitingTime s.lt.clock e.stamp).toNat)

/-- The wait-alarm examination (R80): each entry that is due posts WAITING, head to tail, and has its flag set. -/
def State.examineWaits (s : State) : State :=
  let s1 := (s.ge.entries.filter s.alarmDue).foldl (fun t e => t.postAttention (.waiting e.client)) s
  s1.setEntries (s.ge.entries.map fun e => if s.alarmDue e then { e with alarmed := true } else e)

/-- WAIT_ALARM_EXAMINATION (R80): one examination belongs to each tick, and none is made while the parameter is 0. -/
def execWaitAlarmExamination (s : State) : Host.Outcome State Fault Refusal :=
  if s.lt.alarmOpen ∧ s.cu.catalogue.params.waitAlarm ≠ 0#16 then
    .next { s.examineWaits with lt := { s.examineWaits.lt with alarmOpen := false } }
  else .next s

/-- Hold reason LINE follows STOPIN in SERVING and HOLD (R180). -/
def State.setLine (s : State) (asserted : Bool) : State :=
  let s1 := { s with mc := { s.mc with stopin := asserted } }
  if s.inService then { s1 with mc := { s1.mc with holdLine := asserted } }.followReasons else s1

/-- STOPIN_ASSERTED (R180). -/
def execStopinAsserted (s : State) : Host.Outcome State Fault Refusal := .next (s.setLine true)

/-- STOPIN_DEASSERTED (R180). -/
def execStopinDeasserted (s : State) : Host.Outcome State Fault Refusal := .next (s.setLine false)

end Sys2Proof.Machine
end

