-- ==== Sys2Proof/Machine/Dispatch.lean ====
section
/-! DEFINITION. The dispatch: one arm per command of Sys2Proof.Instr, each one direct call of its meaning. -/

namespace Sys2Proof.Machine

/-- What a command does to everything but the queue. -/
def exec (i : Instr) (s : State) : Host.Outcome State Fault Refusal :=
  match i with
  | .powerOnReset => Sys2Proof.Machine.execPowerOnReset s
  | .lineReset => Sys2Proof.Machine.execLineReset s
  | .rstReleased => Sys2Proof.Machine.execRstReleased s
  | .catalogueLoad => Sys2Proof.Machine.execCatalogueLoad s
  | .tick => Sys2Proof.Machine.execTick s
  | .lapse => Sys2Proof.Machine.execLapse s
  | .waitAlarmExamination => Sys2Proof.Machine.execWaitAlarmExamination s
  | .stopinAsserted => Sys2Proof.Machine.execStopinAsserted s
  | .stopinDeasserted => Sys2Proof.Machine.execStopinDeasserted s
  | .characterReceived mark data => Sys2Proof.Machine.execCharacterReceived mark data s
  | .framingError => Sys2Proof.Machine.execFramingError s
  | .gapLimitExpiry => Sys2Proof.Machine.execGapLimitExpiry s
  | .beginExchange => Sys2Proof.Machine.execBeginExchange s
  | .transmitDone => Sys2Proof.Machine.execTransmitDone s
  | .replyWindowTimeout => Sys2Proof.Machine.execReplyWindowTimeout s
  | .sendAnswer => Sys2Proof.Machine.execSendAnswer s
  | .idle ack => Sys2Proof.Machine.execIdle ack s
  | .malformedRequest seq ack => Sys2Proof.Machine.execMalformedRequest seq ack s
  | .join seq ack session => Sys2Proof.Machine.execJoin seq ack session s
  | .leave seq ack => Sys2Proof.Machine.execLeave seq ack s
  | .acquire seq ack tag wait term zones => Sys2Proof.Machine.execAcquire seq ack tag wait term zones s
  | .cancel seq ack tag => Sys2Proof.Machine.execCancel seq ack tag s
  | .renew seq ack bundle token term => Sys2Proof.Machine.execRenew seq ack bundle token term s
  | .release seq ack bundle token zone => Sys2Proof.Machine.execRelease seq ack bundle token zone s
  | .status seq ack => Sys2Proof.Machine.execStatus seq ack s
  | .setZone => Sys2Proof.Machine.execSetZone s
  | .setClient => Sys2Proof.Machine.execSetClient s
  | .setParameters => Sys2Proof.Machine.execSetParameters s
  | .clearCatalogue => Sys2Proof.Machine.execClearCatalogue s
  | .revert => Sys2Proof.Machine.execRevert s
  | .readZoneRecord => Sys2Proof.Machine.execReadZoneRecord s
  | .readClientRecord => Sys2Proof.Machine.execReadClientRecord s
  | .readParameters => Sys2Proof.Machine.execReadParameters s
  | .freeze => Sys2Proof.Machine.execFreeze s
  | .commit nvwe => Sys2Proof.Machine.execCommit nvwe s
  | .commitErasePageDone readBack => Sys2Proof.Machine.execCommitErasePageDone readBack s
  | .commitProgramPageDone readBack => Sys2Proof.Machine.execCommitProgramPageDone readBack s
  | .commitMarkGenerationDone readBack => Sys2Proof.Machine.execCommitMarkGenerationDone readBack s
  | .commitMarkMarkerDone readBack => Sys2Proof.Machine.execCommitMarkMarkerDone readBack s
  | .nvweInactive => Sys2Proof.Machine.execNvweInactive s
  | .closeZone => Sys2Proof.Machine.execCloseZone s
  | .openZone => Sys2Proof.Machine.execOpenZone s
  | .clearFence => Sys2Proof.Machine.execClearFence s
  | .revokeBundle => Sys2Proof.Machine.execRevokeBundle s
  | .readZoneState => Sys2Proof.Machine.execReadZoneState s
  | .readBundle => Sys2Proof.Machine.execReadBundle s
  | .withdrawRequest => Sys2Proof.Machine.execWithdrawRequest s
  | .readPending => Sys2Proof.Machine.execReadPending s
  | .readLeaseClock => Sys2Proof.Machine.execReadLeaseClock s
  | .barClient => Sys2Proof.Machine.execBarClient s
  | .unbarClient => Sys2Proof.Machine.execUnbarClient s
  | .readClientState => Sys2Proof.Machine.execReadClientState s
  | .fetchAttention => Sys2Proof.Machine.execFetchAttention s
  | .start => Sys2Proof.Machine.execStart s
  | .stop => Sys2Proof.Machine.execStop s
  | .hold => Sys2Proof.Machine.execHold s
  | .resume => Sys2Proof.Machine.execResume s
  | .restart => Sys2Proof.Machine.execRestart s
  | .badCommand => Sys2Proof.Machine.execBadCommand s
  | .executeOverrun => Sys2Proof.Machine.execExecuteOverrun s
  | .publishResponse => Sys2Proof.Machine.execPublishResponse s
  | .readStatus1 => Sys2Proof.Machine.execReadStatus1 s
  | .readLeaseClockLatch => Sys2Proof.Machine.execReadLeaseClockLatch s
  | .readResultByte => Sys2Proof.Machine.execReadResultByte s
  | .writeAlertEnable value => Sys2Proof.Machine.execWriteAlertEnable value s
  | .writeRegister value => Sys2Proof.Machine.execWriteRegister value s
  | .lineReturnsTo1 => Sys2Proof.Machine.execLineReturnsTo1 s
  | .transactionBegin first => Sys2Proof.Machine.execTransactionBegin first s
  | .transactionEnd => Sys2Proof.Machine.execTransactionEnd s

end Sys2Proof.Machine
end

