-- ==== Sys2Proof/Safety.lean ====
section
/-! DEFINITION. What the manual says holds of the part at every moment, as properties of one state: the terms in which the claims about
steps are stated. -/

namespace Sys2Proof.Safety

open Sys2Proof.Machine

/-- The catalogue memory keeps its canonical form. -/
def NvCanonical (s : State) : Prop := nvWf s.cm.nv = true

/-- With one or more hold reasons present the mode is HOLD, and in every other mode no reason is present (R172). -/
def HoldReasons (s : State) : Prop := (s.mc.holdCommand = true ∨ s.mc.holdLine = true) ↔ s.mc.mode = .hold

/-- While the mode is SERVING or HOLD, hold reason LINE follows STOPIN (R180). -/
def LineFollowsStopin (s : State) : Prop := s.inService = true → s.mc.holdLine = s.mc.stopin

/-- The Attention Set holds at most 48 entries, at most one for any pair of kind and subject, with counts 1 to 255 (R153), and its
overflow flag is clear when it is empty (R155). -/
def AttentionSetSound (s : State) : Prop :=
  s.attn.entries.length ≤ 48 ∧ (s.attn.entries.map fun e => e.what).Nodup ∧ (∀ e ∈ s.attn.entries, e.count ≠ 0#8) ∧
    (s.attn.overflow = true → s.attn.entries ≠ [])

/-- Each outbox holds at most 8 notices, whose sequence numbers run consecutively, modulo 256, up to the one before the next notice
sequence (R101). -/
def OutboxesSound (s : State) : Prop :=
  ∀ c : Slot, s.ct[c].outbox.length ≤ 8 ∧
    ∀ (i : Nat) (h : i < s.ct[c].outbox.length),
      (s.ct[c].outbox[i]).seq = s.ct[c].nextNotice - BitVec.ofNat 8 (s.ct[c].outbox.length - i)

/-- Every record of the working catalogue holds values of its table, and no two enabled clients share an address (R2, R3, R4). -/
def CatalogueSound (s : State) : Prop := s.cu.catalogue.valid = true

/-- The expiry queue holds each bundle of the bundle table exactly once and nothing else (R69). -/
def QueueHoldsBundles (s : State) : Prop :=
  s.lt.queue.Nodup ∧ ∀ b : BundleId, b ∈ s.lt.queue ↔ s.ge.bundles[b].isSome = true

/-- No two bundles carry the same token, and no bundle carries token 0 (R25). -/
def TokensDistinct (s : State) : Prop :=
  ∀ (b : BundleId) (x : Bundle), s.ge.bundles[b] = some x →
    x.token ≠ 0#16 ∧ ∀ (b' : BundleId) (x' : Bundle), s.ge.bundles[b'] = some x' → x'.token = x.token → b' = b

/-- A commit record exists exactly while the commit state is RUNNING, only in CONFIG, and never targets the active bank (R161, R164,
R168). -/
def CommitSound (s : State) : Prop :=
  (s.cm.commit.isSome = true ↔ s.cm.commitState = .running) ∧
    ∀ r : CommitRecord, s.cm.commit = some r →
      s.mc.mode = .config ∧ ∀ (b : Bank) (g : Word), s.cm.active = some (b, g) → r.target ≠ b

/-- While the mode is SERVING or HOLD, the dirty flag is clear (R14) and no commit is in progress. -/
def CleanInService (s : State) : Prop := s.inService = true → s.cu.dirty = false ∧ s.cm.commit = none

/-- Outside SERVING and HOLD the bundle table and the pending list are empty and no zone has a holder or a fence (R22). -/
def EmptyOutsideService (s : State) : Prop :=
  s.inService = false →
    (∀ b : BundleId, s.ge.bundles[b] = none) ∧ s.ge.entries = [] ∧
      ∀ z : ZoneId, s.ge.zones[z].holders = [] ∧ s.ge.zones[z].fences = 0

/-- While the mode is SERVING, the oldest pending entry names a zone that is closed, fenced or full, or the bundle table is full
(R56). -/
def HeadBlocked (s : State) : Prop :=
  s.mc.mode = .serving → ∀ e : Entry, s.ge.entries.head? = some e →
    s.freeSlot = none ∨ ∃ z ∈ e.zones, s.zoneAvailable z = false

/-- The zone state table and the bundle table agree: a bundle id stands in a zone's holder list exactly when its bundle has the zone,
once; and holders plus fences never exceed the capacity (R19). -/
structure UnitsAccounted (s : State) : Prop where
  /-- A holder list names exactly the bundles that have the zone. -/
  holders : ∀ (z : ZoneId) (b : BundleId), b ∈ s.ge.zones[z].holders ↔ z ∈ s.zonesOfBundle b
  /-- No id stands in it twice. -/
  once : ∀ z : ZoneId, s.ge.zones[z].holders.Nodup
  /-- Holders plus fences stay within the capacity. -/
  units : ∀ z : ZoneId,
    s.ge.zones[z].holders.length + s.ge.zones[z].fences ≤ s.cu.catalogue.zones[z].capacity

/-- The client may lease the zone (R2, R3): the zone is enabled and its class is a member of the client's permission set. -/
def MayLease (s : State) (c : Slot) (z : ZoneId) : Prop :=
  s.cu.catalogue.zones[z].enabled = true ∧
    s.cu.catalogue.clients[c].permissions.getLsbD s.cu.catalogue.zones[z].cls.val = true

/-- Bundles are well formed and within their clients' rights and limits (R3, R23, R87): 1 to 6 distinct zones that the holder may
lease, no zone twice for one client, no more bundles than the bundle limit. -/
structure BundlesSound (s : State) : Prop where
  /-- A zone list of 1 to 6 distinct zones. -/
  zones : ∀ (b : BundleId) (x : Bundle), s.ge.bundles[b] = some x →
    1 ≤ x.zones.length ∧ x.zones.length ≤ 6 ∧ x.zones.Nodup
  /-- The holder may lease each zone. -/
  allowed : ∀ (b : BundleId) (x : Bundle), s.ge.bundles[b] = some x → ∀ z ∈ x.zones, MayLease s x.holder z
  /-- No client holds the same zone in two of its bundles. -/
  apart : ∀ (b b' : BundleId) (x x' : Bundle), s.ge.bundles[b] = some x → s.ge.bundles[b'] = some x' →
    x.holder = x'.holder → b ≠ b' → ∀ z ∈ x.zones, z ∉ x'.zones
  /-- No client holds more bundles than its bundle limit. -/
  limit : ∀ c : Slot, (s.bundlesOf c).length ≤ s.cu.catalogue.clients[c].bundleLimit

/-- Pending entries are well formed (R3, R48, R50, R55): one for a client, 1 to 6 distinct zones that the client may lease, none of them
held by the client, which is JOINED and below its bundle limit. -/
structure EntriesSound (s : State) : Prop where
  /-- No client has two entries. -/
  one : (s.ge.entries.map fun e => e.client).Nodup
  /-- A zone list of 1 to 6 distinct zones. -/
  zones : ∀ e ∈ s.ge.entries, 1 ≤ e.zones.length ∧ e.zones.length ≤ 6 ∧ e.zones.Nodup
  /-- The client may lease each zone. -/
  allowed : ∀ e ∈ s.ge.entries, ∀ z ∈ e.zones, MayLease s e.client z
  /-- No entry names a zone that its client holds. -/
  apart : ∀ e ∈ s.ge.entries, ∀ z ∈ e.zones, s.clientHoldsZone e.client z = false
  /-- The client of an entry is JOINED. -/
  joined : ∀ e ∈ s.ge.entries, s.ct[e.client].state = .joined
  /-- The client of an entry holds fewer bundles than its limit. -/
  room : ∀ e ∈ s.ge.entries, (s.bundlesOf e.client).length < s.cu.catalogue.clients[e.client].bundleLimit

/-- What the states of the clients fix (R86, R87): ABSENT and BARRED clients have no session, no miss, no notice, no bundle and no
entry; a JOINED or SILENT client has a session; a record not in use holds the reset values; outside SERVING and HOLD no client is
JOINED or SILENT (R9). -/
structure ClientsSound (s : State) : Prop where
  /-- ABSENT and BARRED. -/
  out : ∀ c : Slot, s.ct[c].state = .absent ∨ s.ct[c].state = .barred →
    s.ct[c].session = none ∧ s.ct[c].misses = 0 ∧ s.ct[c].outbox = [] ∧ s.bundlesOf c = [] ∧ s.entryOf c = none
  /-- A BARRED client has no stored answer. -/
  barred : ∀ c : Slot, s.ct[c].state = .barred → s.ct[c].last = none
  /-- A session is set while JOINED or SILENT. -/
  session : ∀ c : Slot, s.ct[c].state = .joined ∨ s.ct[c].state = .silent → s.ct[c].session ≠ none
  /-- A record not in use. -/
  unused : ∀ c : Slot, s.inUse c = false → s.ct[c] = freshClient
  /-- Outside service. -/
  stopped : s.inService = false → ∀ c : Slot, s.ct[c].state = .absent ∨ s.ct[c].state = .barred

/-- The tables of leases are sound: the laws of R3, R19, R22, R23, R25, R48, R50, R69 and R87 that hold together at every moment. -/
structure LeasesSound (s : State) : Prop where
  /-- R19. -/
  units : UnitsAccounted s
  /-- R23, R87. -/
  bundles : BundlesSound s
  /-- R48, R50. -/
  entries : EntriesSound s
  /-- R86, R87. -/
  clients : ClientsSound s
  /-- R69. -/
  queue : QueueHoldsBundles s
  /-- R25. -/
  tokens : TokensDistinct s
  /-- R22. -/
  empty : EmptyOutsideService s

/-- The working catalogue is the image of the active bank whenever the dirty flag is clear outside BOOT (R13, R14). -/
def CatalogueCommitted (s : State) : Prop :=
  s.mc.mode ≠ .boot → s.cu.dirty = false →
    ∃ (b : Bank) (g : Word), s.cm.active = some (b, g) ∧ classifyBank s.cm.nv b = .valid g s.cu.catalogue

/-- What a running commit has written so far (R166 to R168): in PROGRAM the pages below the current one, in MARK the whole image and,
before the marker is written, the generation; until then the target's marker is not present. -/
structure CommitProgress (s : State) (r : CommitRecord) : Prop where
  /-- The new generation is one that may be written (R159). -/
  generation : r.generation ≠ 0#32 ∧ r.generation ≠ 0xFFFFFFFF#32
  /-- The new generation is above the active one (R165). -/
  higher : ∀ (b : Bank) (g : Word), s.cm.active = some (b, g) → g.toNat < r.generation.toNat
  /-- The target is UNMARKED for the whole of the commit (R166). -/
  unmarked : markerBytes s.cm.nv r.target ≠ validMarker
  /-- In PROGRAM the pages below the current one hold their shares of the image. -/
  programmed : r.phase = .program → r.page.val ≤ 62 ∧ ∀ p : Nat, p < r.page.val →
    pageBytes s.cm.nv r.target p = imagePage s.cu.catalogue r.generation p
  /-- In MARK every image page holds its share. -/
  image : r.phase = .markGeneration ∨ r.phase = .markMarker → r.page = 63 ∧ ∀ p : Nat, p < 63 →
    pageBytes s.cm.nv r.target p = imagePage s.cu.catalogue r.generation p
  /-- Before the marker is written the generation stands in the marker page. -/
  marked : r.phase = .markMarker → nvReadList (nvAddress r.target 63 0) 4 s.cm.nv = wordBytes r.generation

/-- The banks and the flags agree, as long as no bank is damaged from outside (no row of the table damages one): the laws of R14,
R160, R161, R164 to R168 that hold together at every moment. -/
structure BanksSound (s : State) : Prop where
  /-- The canonical form of the memory. -/
  canonical : NvCanonical s
  /-- R2, R3, R4. -/
  catalogue : CatalogueSound s
  /-- R161. -/
  commit : CommitSound s
  /-- R166 to R168. -/
  progress : ∀ r : CommitRecord, s.cm.commit = some r → CommitProgress s r
  /-- The active bank is VALID under the active generation (R160, R161). -/
  active : ∀ (b : Bank) (g : Word), s.cm.active = some (b, g) → ∃ cat : Catalogue, classifyBank s.cm.nv b = .valid g cat
  /-- When the other bank is VALID too, the active bank has the higher generation, or both have one generation and the active bank is
  bank 0 (R162, R168). -/
  newer : ∀ (b : Bank) (g : Word), s.cm.active = some (b, g) →
    ∀ (d : Bank) (g' : Word) (cat : Catalogue), d ≠ b → classifyBank s.cm.nv d = .valid g' cat →
      g'.toNat < g.toNat ∨ (g' = g ∧ b = 0)
  /-- Outside BOOT no bank is VALID while none is active (R162). -/
  none : s.mc.mode ≠ .boot → s.cm.active = none →
    ∀ (d : Bank) (g : Word) (cat : Catalogue), classifyBank s.cm.nv d ≠ .valid g cat
  /-- R13, R14. -/
  committed : CatalogueCommitted s
  /-- R14. -/
  clean : CleanInService s

end Sys2Proof.Safety
end

