-- ==== Sys2Proof/Certificates/Slice0/Obligations.lean ====
section
/-! DEFINITION. The statements for the provers, from the numbered rules of spec/, and the words they are stated in (namespace
Sys2Proof.Claim). -/

namespace Sys2Proof.Claim

open Sys2Proof.Machine

/-! ## Words: layouts (Chapters 6, 9 and 11) -/

/-- A two-byte field, most significant byte first (R183). -/
def be16 (h : Half) : List Byte := [h.extractLsb' 8 8, h.extractLsb' 0 8]

/-- A four-byte field, most significant byte first (R183). -/
def be32 (w : Word) : List Byte := [w.extractLsb' 24 8, w.extractLsb' 16 8, w.extractLsb' 8 8, w.extractLsb' 0 8]

/-- A flag as the part sends it (R183). -/
abbrev flag (f : Bool) : Byte := if f then 0x01#8 else 0x00#8

/-- The byte of a bundle id. -/
abbrev bundleByte (b : BundleId) : Byte := BitVec.ofNat 8 b.val

/-- The zone bytes of zone numbers. -/
abbrev zoneBytes (zs : List ZoneId) : List Byte := zs.map fun z => BitVec.ofNat 8 z.val

/-- The zone bytes of zones with their fenced marks in bit 7 (R183). -/
abbrev markedBytes (zs : List (ZoneId × Bool)) : List Byte := zs.map fun z => BitVec.ofBool z.2 ++ BitVec.ofNat 7 z.1.val

/-- A notice as a POLL carries it: sequence, kind code, contents (Table 11-4). -/
def noticeLayout (n : Notice) : List Byte :=
  match n.body with
  | .grant tag b token low => [n.seq, 0x01#8, tag, bundleByte b] ++ be16 token ++ be16 low
  | .lapsed b tag zs => [n.seq, 0x02#8, bundleByte b, tag, BitVec.ofNat 8 zs.length] ++ markedBytes zs
  | .revoked b tag zs => [n.seq, 0x03#8, bundleByte b, tag, BitVec.ofNat 8 zs.length] ++ markedBytes zs
  | .withdrawn tag .supervisor => [n.seq, 0x04#8, tag, 0x01#8]
  | .withdrawn tag .silence => [n.seq, 0x04#8, tag, 0x02#8]
  | .resync => [n.seq, 0x05#8]

/-- One bundle of a STATUS answer: bundle id, token, remaining ticks, zone count, zones (Table 11-7). -/
abbrev statusEntry (b : StatusBundle) : List Byte :=
  bundleByte b.bundle :: be16 b.token ++ be16 b.remaining ++ BitVec.ofNat 8 b.zones.length :: zoneBytes b.zones

/-- Result code and contents of an answer (Tables 11-6 and 11-7). -/
def answerLayout : Answer → List Byte
  | .joined .new bundles pending notices => [0x00#8, 0x01#8, BitVec.ofNat 8 bundles, flag pending, BitVec.ofNat 8 notices]
  | .joined .resumed bundles pending notices => [0x00#8, 0x02#8, BitVec.ofNat 8 bundles, flag pending, BitVec.ofNat 8 notices]
  | .joined .fresh bundles pending notices => [0x00#8, 0x03#8, BitVec.ofNat 8 bundles, flag pending, BitVec.ofNat 8 notices]
  | .left bundles => [0x00#8, BitVec.ofNat 8 bundles]
  | .cancelled => [0x00#8]
  | .renewed low renews => 0x00#8 :: be16 low ++ [renews]
  | .released zones => [0x00#8, BitVec.ofNat 8 zones]
  | .status none bundles => [0x00#8, 0x00#8, 0x00#8, BitVec.ofNat 8 bundles.length] ++ bundles.flatMap statusEntry
  | .status (some tag) bundles => [0x00#8, 0x01#8, tag, BitVec.ofNat 8 bundles.length] ++ bundles.flatMap statusEntry
  | .granted b token low => [0x01#8, bundleByte b] ++ be16 token ++ be16 low
  | .queued position => [0x02#8, BitVec.ofNat 8 position]
  | .notServing => [0x10#8]
  | .notJoined => [0x11#8]
  | .badZone byte => [0x12#8, byte]
  | .malformed => [0x13#8]
  | .notPermitted z => [0x14#8, BitVec.ofNat 8 z.val]
  | .termRange m => 0x15#8 :: be16 m
  | .alreadyHeld z => [0x16#8, BitVec.ofNat 8 z.val]
  | .pendingExists => [0x17#8]
  | .clientLimit => [0x18#8]
  | .tableFull => [0x19#8]
  | .unavailable => [0x1A#8]
  | .holding => [0x1B#8]
  | .wouldDeadlock => [0x1C#8]
  | .notFound => [0x1D#8]
  | .noSuchBundle => [0x1E#8]
  | .badToken => [0x1F#8]
  | .notHeld => [0x20#8]
  | .limit renews => [0x21#8, renews]

/-- The supervisor result codes (Table 11-9). -/
def resultCode : Result → Byte
  | .doneOk => 0x01#8
  | .badCommand => 0x02#8
  | .badArgument => 0x03#8
  | .wrongMode => 0x04#8
  | .frozen => 0x05#8
  | .busy => 0x06#8
  | .notFound => 0x07#8
  | .notQuiescent => 0x08#8
  | .uncommitted => 0x09#8
  | .nvProtected => 0x0A#8
  | .nvFailed => 0x0B#8

/-- Kind and subject of an attention (Table 11-12). -/
def attentionLayout : Attention → List Byte
  | .fenced z => [0x01#8, BitVec.ofNat 8 z.val]
  | .silent c => [0x02#8, BitVec.ofNat 8 c.val]
  | .returned c => [0x03#8, BitVec.ofNat 8 c.val]
  | .resync c => [0x04#8, BitVec.ofNat 8 c.val]
  | .waiting c => [0x05#8, BitVec.ofNat 8 c.val]
  | .nvFault b => [0x06#8, BitVec.ofNat 8 b.val]

/-- The link rate codes (Table 11-12). -/
def linkRateCode : LinkRate → Byte
  | .r9600 => 0x00#8
  | .r19200 => 0x01#8
  | .r38400 => 0x02#8
  | .r57600 => 0x03#8
  | .r115200 => 0x04#8
  | .r250000 => 0x05#8
  | .r500000 => 0x06#8
  | .r1000000 => 0x07#8

/-- A zone record in 8 bytes (Table 11-12). -/
abbrev zoneLayout (r : ZoneRecord) : List Byte :=
  [flag r.enabled, BitVec.ofNat 8 r.capacity, BitVec.ofNat 8 r.cls.val,
    match r.policy with | .free => 0x00#8 | .fence => 0x01#8] ++ be16 r.maxTerm ++ [r.renewalLimit, flag r.startClosed]

/-- A client record in 5 bytes (Table 11-12). -/
abbrev clientLayout (r : ClientRecord) : List Byte :=
  [flag r.enabled, BitVec.ofNat 8 r.address] ++ be16 r.permissions ++ [BitVec.ofNat 8 r.bundleLimit]

/-- The parameter record in 10 bytes (Table 11-12). -/
abbrev parameterLayout (p : Parameters) : List Byte :=
  [BitVec.ofNat 8 p.tickPeriod, linkRateCode p.linkRate, BitVec.ofNat 8 p.replyWindow, BitVec.ofNat 8 p.missLimit,
    BitVec.ofNat 8 p.rollCallInterval] ++ be16 p.silenceGrace ++ be16 p.waitAlarm ++ [flag p.autostart]

/-- The frame CRC (R113): generator 1021H, from FFFFH, each byte entering most significant bit first. -/
def frameCrc (bytes : List Byte) : Half :=
  bytes.foldl (fun reg b =>
    (fun x : Half => if x.msb then (x <<< 1) ^^^ 0x1021#16 else x <<< 1)^[8] (reg ^^^ (b ++ 0x00#8))) 0xFFFF#16

/-- The CRC-32 of an image over its catalogue bytes and its generation (R159): generator 04C11DB7H (bit-reversed EDB88320H), from
FFFFFFFFH, each byte entering least significant bit first, and the final value inverted. -/
def imageCrcOf (bytes : List Byte) (g : Word) : Word :=
  ~~~ (bytes ++ be32 g).foldl (fun reg b =>
    (fun x : Word => if x.getLsbD 0 then (x >>> 1) ^^^ 0xEDB88320#32 else x >>> 1)^[8] (reg ^^^ b.zeroExtend 32)) 0xFFFFFFFF#32

/-- The characters of a frame (R112, R113): the address with mark bit 1, then kind, length, body and CRC with mark bit 0. -/
def frameLayout (address kind : Byte) (body : List Byte) : List LineChar :=
  let rest := kind :: BitVec.ofNat 8 body.length :: body
  { mark := true, data := address } :: (rest ++ be16 (frameCrc (address :: rest))).map fun b => { mark := false, data := b }

/-- The bits of a character on the line (R110): start, data with the least significant bit first, mark, stop. -/
abbrev lineBits (c : LineChar) : List Bool :=
  [false, c.data.getLsbD 0, c.data.getLsbD 1, c.data.getLsbD 2, c.data.getLsbD 3, c.data.getLsbD 4, c.data.getLsbD 5,
    c.data.getLsbD 6, c.data.getLsbD 7, c.mark, true]

/-- The 2016 bytes of the image area (R159): the records, bytes that are not programmed, the CRC-32. -/
def imageLayout (cat : Catalogue) (g : Word) : List Byte :=
  let records := cat.zones.toList.flatMap zoneLayout ++ cat.clients.toList.flatMap clientLayout ++ parameterLayout cat.params
  records ++ List.replicate 818 0xFF#8 ++ be32 (imageCrcOf records g)

/-- The marker of a VALID bank (R159). -/
abbrev markerLayout : List Byte := [0xA5#8, 0x5A#8, 0xC3#8, 0x3C#8]

/-! ## Words: tables -/

/-- The mode is SERVING or HOLD. -/
abbrev served (s : State) : Bool := s.mc.mode == .serving || s.mc.mode == .hold

/-- The mailbox is BUSY. -/
abbrev busy (s : State) : Bool :=
  match s.si.mailbox with
  | .busy _ _ => true
  | .idle => false
  | .done => false

/-- A client runtime record is replaced. -/
abbrev withRecord (s : State) (c : Slot) (r : ClientRuntime) : State := { s with ct := s.ct.set c r }

/-- A zone runtime record is replaced. -/
abbrev withZone (s : State) (z : ZoneId) (r : ZoneState) : State := { s with ge := { s.ge with zones := s.ge.zones.set z r } }

/-- The receiver state is replaced. -/
abbrev receiving (s : State) (r : Receiver) : State := { s with li := { s.li with receiver := r } }

/-- The exchange state is replaced. -/
abbrev exchanging (s : State) (e : ExchangeState) : State := { s with es := { s.es with exchange := e } }

/-- The bus address of a client's record. -/
abbrev addressIn (s : State) (c : Slot) : Nat := s.cu.catalogue.clients[c].address

/-- The deadline of the bundle in a slot of a bundle table. -/
def deadlineIn (bundles : Vector (Option Bundle) 64) (b : BundleId) : Word :=
  match bundles[b] with
  | some y => y.deadline
  | none => 0#32

/-- The ids of the bundles, ascending. -/
abbrev liveIds (s : State) : List BundleId := (List.finRange 64).filter fun b => s.ge.bundles[b].isSome

/-- The ids of a client's bundles, ascending. -/
def heldBy (s : State) (c : Slot) : List BundleId :=
  (List.finRange 64).filter fun b => match s.ge.bundles[b] with | some y => decide (y.holder = c) | none => false

/-- The pending entry of a client. -/
abbrev entryFor (s : State) (c : Slot) : Option Entry := s.ge.entries.find? fun e => decide (e.client = c)

/-- A client's entry has left the list, and the others keep their order (R49). -/
abbrev entryGone (s : State) (c : Slot) : State :=
  { s with ge := { s.ge with entries := s.ge.entries.filter fun e => decide (e.client ≠ c) } }

/-- A bundle has a changed record and stands in the expiry queue under its new deadline, behind every earlier or equal one (R70). -/
def rescheduled (s : State) (b : BundleId) (y : Bundle) : State :=
  let bundles := s.ge.bundles.set b (some y)
  { s with ge := { s.ge with bundles := bundles }
           lt := { s.lt with queue := insertByDeadline (deadlineIn bundles) b (s.lt.queue.erase b) } }

/-- Bundles end one after another under a disposition (R28). -/
abbrev endedAll (s : State) (ids : List BundleId) (disposition : ZoneId → ExpiryPolicy) : State :=
  ids.foldl (fun t b => t.endBundle b disposition) s

/-- Bundles are released one after another with all their zones (R27, R95). -/
abbrev releasedAll (s : State) (ids : List BundleId) : State :=
  ids.foldl (fun t b => match t.ge.bundles[b] with | some y => t.giveUpZones b y y.zones | none => t) s

/-- The exchange record of an exchange with a client carries the discard mark (Table 7-4). -/
def discardMarked (s : State) (c : Slot) : State :=
  match s.es.exchange with
  | .gap => s
  | .polling x => if x.target = c then exchanging s (.polling { x with discard := true }) else s
  | .awaiting x w d => if x.target = c then exchanging s (.awaiting { x with discard := true } w d) else s
  | .answering x a sending => if x.target = c then exchanging s (.answering { x with discard := true } a sending) else s

/-- The record of a client that is absent and has no history (Table 5-6). -/
abbrev absentRecord : ClientRuntime :=
  { state := .absent, session := none, misses := 0, last := none, outbox := [], nextNotice := 0#8 }

/-- The empty catalogue (R5, Tables 1-4 and 1-5). -/
def blankCatalogue : Catalogue :=
  { zones := Vector.replicate 128
      { enabled := false, capacity := 1, cls := 0, policy := .fence, maxTerm := 100#16, renewalLimit := 0#8, startClosed := false }
    clients := Vector.ofFn fun c =>
      { enabled := false, address := c.val + 1, permissions := 0#16, bundleLimit := 4 }
    params :=
      { tickPeriod := 10, linkRate := .r115200, replyWindow := 8, missLimit := 3, rollCallInterval := 16,
        silenceGrace := 100#16, waitAlarm := 0#16, autostart := false } }

/-- Every field of the catalogue is one that the edit commands accept (R2, R3, R4). -/
structure Acceptable (cat : Catalogue) : Prop where
  zones : ∀ z : ZoneId, 1 ≤ cat.zones[z].capacity ∧ cat.zones[z].capacity ≤ 4 ∧ cat.zones[z].maxTerm ≠ 0#16
  clients : ∀ c : Slot, 1 ≤ cat.clients[c].address ∧ cat.clients[c].address ≤ 62 ∧ 1 ≤ cat.clients[c].bundleLimit ∧
    cat.clients[c].bundleLimit ≤ 4
  addresses : ∀ c d : Slot, c ≠ d → cat.clients[c].enabled = true → cat.clients[d].enabled = true →
    cat.clients[c].address ≠ cat.clients[d].address
  tickPeriod : 1 ≤ cat.params.tickPeriod ∧ cat.params.tickPeriod ≤ 250
  replyWindow : 2 ≤ cat.params.replyWindow ∧ cat.params.replyWindow ≤ 63
  missLimit : 1 ≤ cat.params.missLimit ∧ cat.params.missLimit ≤ 15
  rollCallInterval : 1 ≤ cat.params.rollCallInterval ∧ cat.params.rollCallInterval ≤ 255

/-- A zone record stands at the front of the bytes (Table 11-12; of a flag byte bit 0 is read, R183). -/
def ZoneStored (bytes : List Byte) (r : ZoneRecord) : Prop :=
  ∃ en cap cl pol t1 t0 lim sc rest, bytes = en :: cap :: cl :: pol :: t1 :: t0 :: lim :: sc :: rest ∧
    r.enabled = en.getLsbD 0 ∧ r.capacity = cap.toNat ∧ r.cls.val = cl.toNat ∧
    pol = (match r.policy with | .free => 0x00#8 | .fence => 0x01#8) ∧ r.maxTerm = t1 ++ t0 ∧ r.renewalLimit = lim ∧
    r.startClosed = sc.getLsbD 0

/-- A client record stands at the front of the bytes. -/
def ClientStored (bytes : List Byte) (r : ClientRecord) : Prop :=
  ∃ en ad p1 p0 lim rest, bytes = en :: ad :: p1 :: p0 :: lim :: rest ∧
    r.enabled = en.getLsbD 0 ∧ r.address = ad.toNat ∧ r.permissions = p1 ++ p0 ∧ r.bundleLimit = lim.toNat

/-- The parameter record stands at the front of the bytes. -/
def ParametersStored (bytes : List Byte) (p : Parameters) : Prop :=
  ∃ tp rate rw ml rc g1 g0 w1 w0 au rest, bytes = tp :: rate :: rw :: ml :: rc :: g1 :: g0 :: w1 :: w0 :: au :: rest ∧
    p.tickPeriod = tp.toNat ∧ linkRateCode p.linkRate = rate ∧ p.replyWindow = rw.toNat ∧ p.missLimit = ml.toNat ∧
    p.rollCallInterval = rc.toNat ∧ p.silenceGrace = g1 ++ g0 ∧ p.waitAlarm = w1 ++ w0 ∧ p.autostart = au.getLsbD 0

/-- The catalogue stands in the bytes (R159): zone records, client records, parameters, with no gaps. -/
def CatalogueStored (bytes : List Byte) (cat : Catalogue) : Prop :=
  (∀ z : ZoneId, ZoneStored (bytes.drop (8 * z.val)) cat.zones[z]) ∧
    (∀ c : Slot, ClientStored (bytes.drop (1024 + 5 * c.val)) cat.clients[c]) ∧ ParametersStored (bytes.drop 1184) cat.params

/-- The four bytes at an address of the catalogue memory as a word, most significant byte first. -/
abbrev wordAt (nv : List Host.Cell) (a : Nat) : Word := (nvRead a nv ++ nvRead (a + 1) nv) ++ (nvRead (a + 2) nv ++ nvRead (a + 3) nv)

/-! ## Words: supervisor commands -/

/-- The byte that the write transaction writes next is EXECUTE, the mailbox is IDLE or DONE, and the command block holds the command
of this code. -/
abbrev Ready (s : State) (code : Byte) : Prop :=
  s.si.port = .writing 0x29#7 ∧ busy s = false ∧ s.si.commandBlock[0] = code

/-- The transaction that a first byte begins: bit 7 is 1 for a read, bits 6 to 0 are the start address (R143). -/
abbrev begun (byte : Byte) : Port := if byte.getLsbD 7 = true then .reading (byte.truncate 7) else .writing (byte.truncate 7)

/-- Argument byte `i` of the command block, from 0. -/
abbrev arg (s : State) (i : Nat) : Byte := s.si.commandBlock.toList.getD (i + 1) 0#8

/-- The argument bytes of the command block from argument byte `i` on. -/
abbrev args (s : State) (i : Nat) : List Byte := s.si.commandBlock.toList.drop (i + 1)

/-- The command has been taken: the mailbox is BUSY with the copy of the command block, and the transaction goes on behind EXECUTE. -/
def taken (s : State) : State :=
  { s with si := { s.si with mailbox := .busy s.si.commandBlock none, port := .writing 0x2A#7 } }

/-- The state `t` in which the command taken in `s` has been decided: the mailbox is BUSY with the copy and the response, which waits
for its publication. -/
def decided (s t : State) (result : Result) (contents : List Byte) : State :=
  { t with si := { s.si with mailbox := .busy s.si.commandBlock (some { result := result, contents := contents }),
                             port := .writing 0x2A#7 } }

/-- The command taken in `s` is refused: it is decided, and nothing else changes. -/
def refusedWith (s : State) (result : Result) (contents : List Byte) : State := decided s s result contents

/-! ## Words: replies -/

/-- The exchange `x` awaits its reply, and the client it was begun with still stands: its record is in use at the address polled, it is
not BARRED, and the exchange carries no discard mark. -/
abbrev Awaits (s : State) (x : Exchange) (w : Nat) (d : Bool) : Prop :=
  s.es.exchange = .awaiting x w d ∧ x.discard = false ∧ s.cu.catalogue.clients[x.target].enabled = true ∧
    s.cu.catalogue.clients[x.target].address = x.address ∧ s.ct[x.target].state ≠ .barred

/-- The client has a session: it is JOINED, or SILENT and returned by the very reply. -/
abbrev Present (s : State) (c : Slot) : Prop := s.ct[c].state = .joined ∨ s.ct[c].state = .silent

/-- No answer of this request sequence is stored for the client. -/
abbrev NewSequence (s : State) (c : Slot) (seq : RequestSeq) : Prop := (s.ct[c].last.map fun a => a.seq) ≠ some seq

/-- The reply has been received and the Client Table has taken steps 1 to 3 of R88 for it. -/
def heard (s : State) (x : Exchange) (ack : Option Byte) : State :=
  { s with li := { s.li with receiver := .hunt, lineHeld := false } }.acceptReply x.target ack

/-- The answer has been stored and stands in the exchange record, and the ES is ANSWERING. -/
def answering (t : State) (x : Exchange) (seq : RequestSeq) (a : Answer) : State :=
  exchanging (withRecord t x.target { t.ct[x.target] with last := some { seq := seq, answer := a } })
    (.answering x { seq := seq, answer := a } false)

/-- The request is refused with an answer: nothing changes but that the reply is heard and the answer stored. -/
def refusedBy (s : State) (x : Exchange) (ack : Option Byte) (seq : RequestSeq) (a : Answer) : State :=
  answering (heard s x ack) x seq a

/-- The command that stands for a REQUEST reply with this request. -/
def requestRow (seq : RequestSeq) (ack : Option Byte) : Request → Instr
  | .malformed => .malformedRequest seq ack
  | .join session => .join seq ack session
  | .leave => .leave seq ack
  | .acquire tag wait term zones => .acquire seq ack tag wait term zones
  | .cancel tag => .cancel seq ack tag
  | .renew bundle token term => .renew seq ack bundle token term
  | .release bundle token zone => .release seq ack bundle token zone
  | .status => .status seq ack

/-! ## Words: leases -/

/-- `m` is the smallest maximum term among the zones. -/
abbrev IsBoundingTerm (s : State) (zs : List ZoneId) (m : Half) : Prop :=
  (∃ z ∈ zs, s.cu.catalogue.zones[z].maxTerm = m) ∧ ∀ z ∈ zs, m.toNat ≤ (s.cu.catalogue.zones[z].maxTerm).toNat

/-- The requested term resolves to `term` under the bounding term `m` (R30, R75). -/
abbrev ResolvesTo (m requested term : Half) : Prop :=
  (requested = 0#16 ∧ term = m) ∨ (requested ≠ 0#16 ∧ requested.toNat ≤ m.toNat ∧ term = requested)

/-- The renewal limit of the zones admits one more renewal of a bundle with `n` renewals (R75): every nonzero renewal limit among them
is above `n`, so the smallest is. -/
abbrev RenewalAdmitted (s : State) (zs : List ZoneId) (n : Byte) : Prop :=
  ∀ z ∈ zs, s.cu.catalogue.zones[z].renewalLimit = 0#8 ∨ n.toNat < (s.cu.catalogue.zones[z].renewalLimit).toNat

/-- The client holds the zone in one of its bundles. -/
abbrev Holds (s : State) (c : Slot) (z : ZoneId) : Prop :=
  ∃ b : BundleId, ∃ x ∈ s.ge.bundles[b], x.holder = c ∧ z ∈ x.zones

/-- A pending entry names the zone. -/
abbrev Named (s : State) (z : ZoneId) : Prop := ∃ e ∈ s.ge.entries, z ∈ e.zones

/-- The zone can take one more unit (R20). -/
abbrev Available (s : State) (z : ZoneId) : Prop :=
  s.ge.zones[z].closed = false ∧ s.ge.zones[z].fences = 0 ∧
    s.ge.zones[z].holders.length < s.cu.catalogue.zones[z].capacity

/-- `b` is the lowest-numbered empty slot of the bundle table (R24). -/
abbrev LowestEmpty (s : State) (b : BundleId) : Prop :=
  s.ge.bundles[b] = none ∧ ∀ d : BundleId, d < b → s.ge.bundles[d] ≠ none

/-- Every slot of the bundle table holds a bundle (R24). -/
abbrev TableFull (s : State) : Prop := ∀ b : BundleId, s.ge.bundles[b] ≠ none

/-- The number of bundles of a client. -/
abbrev bundleCount (s : State) (c : Slot) : Nat := (heldBy s c).length

/-- The client has a pending entry. -/
abbrev Waits (s : State) (c : Slot) : Prop := ∃ e ∈ s.ge.entries, e.client = c

/-- The checks of ACQUIRE up to check 3: mode, session, list of enabled zones (R31, R32). -/
abbrev ZonesNamed (s : State) (c : Slot) (zs : List ZoneId) : Prop :=
  served s = true ∧ Present s c ∧ zs ≠ [] ∧ zs.length ≤ 6 ∧ zs.Nodup ∧
    ∀ z ∈ zs, s.cu.catalogue.zones[z].enabled = true

/-- Check 4 of ACQUIRE for one zone (R33): its class is in the client's permission set. -/
abbrev Permitted (s : State) (c : Slot) (z : ZoneId) : Prop :=
  s.cu.catalogue.clients[c].permissions.getLsbD s.cu.catalogue.zones[z].cls.val = true

/-- All eight checks of ACQUIRE pass, and the requested term resolves to `term` (R31 to R34). -/
abbrev Admissible (s : State) (c : Slot) (zs : List ZoneId) (requested term : Half) : Prop :=
  ZonesNamed s c zs ∧ (∀ z ∈ zs, Permitted s c z) ∧ (∃ m : Half, IsBoundingTerm s zs m ∧ ResolvesTo m requested term) ∧
    (∀ z ∈ zs, ¬ Holds s c z) ∧ ¬ Waits s c ∧ bundleCount s c < s.cu.catalogue.clients[c].bundleLimit

/-- The bundle in slot `b` is the client's and the request presents its token (checks 1 to 4 of R38 and of R74). -/
abbrev Presents (s : State) (c : Slot) (b : BundleId) (y : Bundle) (token : Half) : Prop :=
  served s = true ∧ Present s c ∧ s.ge.bundles[b] = some y ∧ y.holder = c ∧ y.token = token

/-- The low 16 bits of the clock plus a term. -/
abbrev deadlineLow (s : State) (term : Half) : Half := (s.lt.clock + term.zeroExtend 32).truncate 16

end Sys2Proof.Claim

/-! ## Words: resets, the load, the link, the exchange -/

namespace Sys2Proof.Claim

open Sys2Proof.Machine

/-- The values that every kind of reset leaves: Tables 2-8, 3-5, 4-4, 5-6, 6-6, 7-5, 8-4, 9-6, the dirty flag of Table 1-7, and of
Table 10-1 what is the same for every kind. -/
structure ResetValues (t : State) : Prop where
  mode : t.mc.mode = .boot ∧ t.mc.holdCommand = false ∧ t.mc.holdLine = false
  dirty : t.cu.dirty = false
  memory : t.cm.active = none ∧ t.cm.commitState = .none ∧ t.cm.commit = none
  zones : ∀ z : ZoneId, t.ge.zones[z] = { closed := false, holders := [], fences := 0 }
  bundles : ∀ b : BundleId, t.ge.bundles[b] = none
  counters : t.ge.tokenCounter = 1#16 ∧ t.ge.arrivalCounter = 0#16
  entries : t.ge.entries = []
  clock : t.lt.clock = 0#32 ∧ t.lt.tick = none ∧ t.lt.queue = []
  clients : ∀ c : Slot, t.ct[c] =
    { state := .absent, session := none, misses := 0, last := none, outbox := [], nextNotice := 0#8 }
  attentions : t.attn.entries = [] ∧ t.attn.overflow = false
  window : t.si.mailbox = .idle ∧ t.si.overrun = false ∧ t.si.attentionSwitch = false ∧ t.si.completionSwitch = false ∧
    t.si.latch = 0#32
  blocks : (∀ i : Fin 32, t.si.commandBlock[i] = 0#8) ∧ ∀ i : Fin 32, t.si.responseBlock[i] = 0#8
  port : t.si.port = .inactive ∧ t.si.sdo = none
  link : t.li.receiver = .off ∧ t.li.receiver.count = 0 ∧ t.li.transmitter = .idle
  lines : t.lbdeActive = false ∧ t.lbtxLevels = [true] ∧ t.sdoDriven = false ∧ t.alertActive = false
  exchange : t.es.exchange = .gap ∧ t.es.rotationPointer = 1 ∧ t.es.rollCallPointer = 1 ∧ t.es.rollCallCounter = 0

/-- While RST is asserted every block stands at its reset values (R173), and no examination of the Lease Timer is open. -/
def HeldInReset (s : State) : Prop :=
  s.mc.rst = true → ResetValues s ∧ s.lt.lapseOpen = false ∧ s.lt.alarmOpen = false

/-- The working catalogue has been taken from a bank (R163): bank and generation are the active ones, the dirty flag is clear. -/
abbrev LoadedFrom (t : State) (b : Bank) (g : Word) (cat : Catalogue) : Prop :=
  t.cm.active = some (b, g) ∧ t.cu.catalogue = cat ∧ t.cu.dirty = false

/-- The Attention Set with NV_FAULT posted for a bank that is CORRUPT (R163). -/
abbrev faultPosted (s : State) (b : Bank) (a : AttentionSet) : AttentionSet :=
  if classifyBank s.cm.nv b = .corrupt then a.post (.nvFault b) s.lt.clock else a

/-- The receiver looks for start bits (R111): it is not OFF or MUTED, and the line has been sampled at 1 since the last framing
error. -/
abbrev Listens (s : State) : Prop := s.li.lineHeld = false ∧ s.li.receiver ≠ .off ∧ s.li.receiver ≠ .muted

/-- The frame in assembly ends with this CRC byte and passes the check of R120. -/
abbrev LastCharacter (s : State) (f : Frame) (d : Byte) : Prop :=
  ∃ h : Byte, s.li.receiver = .check f.address f.kind (BitVec.ofNat 8 f.body.length) f.body (some h) ∧
    frameCrc (f.address :: f.kind :: BitVec.ofNat 8 f.body.length :: f.body) = h ++ d

/-- One character taken by a receiver, with the reports it has made so far. -/
abbrev receive (p : Receiver × List Report) (ch : LineChar) : Receiver × List Report :=
  ((p.1.take ch.mark ch.data).1, p.2 ++ (p.1.take ch.mark ch.data).2)

/-- The rotation set (R127). -/
abbrev InRotation (s : State) (c : Slot) : Prop := s.cu.catalogue.clients[c].enabled = true ∧ s.ct[c].state = .joined

/-- The roll-call set (R127). -/
abbrev InRollCall (s : State) (c : Slot) : Prop :=
  s.cu.catalogue.clients[c].enabled = true ∧ (s.ct[c].state = .absent ∨ s.ct[c].state = .silent)

/-- A choice by pointer picks `c` from a set (R128): the lowest address equal to or above the pointer, and when there is none, the
lowest address of the set. -/
abbrev PickedFrom (s : State) (set : Slot → Prop) (pointer : Nat) (c : Slot) : Prop :=
  set c ∧ ((pointer ≤ addressIn s c ∧ ∀ d, set d → pointer ≤ addressIn s d → addressIn s c ≤ addressIn s d) ∨
    ((∀ d, set d → addressIn s d < pointer) ∧ ∀ d, set d → addressIn s c ≤ addressIn s d))

/-- Line 1 or line 2 of Table 7-2 holds: the exchange is a roll-call (R129). -/
abbrev RollCallDue (s : State) : Prop :=
  (∃ c, InRollCall s c) ∧
    ((∀ c, ¬ InRotation s c) ∨ s.cu.catalogue.params.rollCallInterval ≤ s.es.rollCallCounter)

/-- A pointer after an address has been chosen (R128). -/
abbrev pointerAfter (address : Nat) : Nat := if address = 62 then 1 else address + 1

/-- The POLL to client `c` has been handed to the transmitter and the ES is POLLING (R126, R122, R115). -/
def polled (s : State) (c : Slot) (body : List Byte) (es : ExchangeScheduler) : State :=
  { s with
    li := { s.li with receiver := .muted,
                      transmitter := .sending (frameLayout (0x80#8 ||| BitVec.ofNat 8 (addressIn s c)) 0x01#8 body) }
    es := { es with exchange := .polling { target := c, address := addressIn s c, discard := false } } }

end Sys2Proof.Claim

/-! ## Words: the exchange and its end -/

namespace Sys2Proof.Claim

open Sys2Proof.Machine

/-- The client the exchange was begun with still stands: no discard mark, its record in use at the address polled, not BARRED (R135,
R140). -/
abbrev Stands (s : State) (x : Exchange) : Prop :=
  x.discard = false ∧ s.cu.catalogue.clients[x.target].enabled = true ∧
    s.cu.catalogue.clients[x.target].address = x.address ∧ s.ct[x.target].state ≠ .barred

/-- The exchange has ended: the ES is in GAP. -/
abbrev inGap (s : State) : State := { s with es := { s.es with exchange := .gap } }

/-- The state `t` follows from `s` by the failure of the exchange `x` (R135, R89): a miss of a JOINED client is counted, and with the
miss limit the client falls silent. -/
structure FailedBy (s : State) (x : Exchange) (t : State) : Prop where
  counted : Stands s x → s.ct[x.target].state = .joined →
    s.ct[x.target].misses + 1 ≠ s.cu.catalogue.params.missLimit →
    t = inGap (withRecord s x.target { s.ct[x.target] with misses := s.ct[x.target].misses + 1 })
  limit : Stands s x → s.ct[x.target].state = .joined → s.ct[x.target].misses + 1 = s.cu.catalogue.params.missLimit →
    t = inGap ((withRecord s x.target { s.ct[x.target] with misses := s.ct[x.target].misses + 1 }).fallSilent x.target)
  other : Stands s x → s.ct[x.target].state ≠ .joined → t = inGap s
  gone : ¬ Stands s x → t = inGap s

/-- The receiver in a frame (Table 6-3). -/
abbrev InFrame (s : State) : Prop := s.li.receiver ≠ .off ∧ s.li.receiver ≠ .hunt ∧ s.li.receiver ≠ .muted

/-- The bytes of a body have the length of a frame body (R112). -/
abbrev BodyFits (body : List Byte) : Prop := body.length ≤ 56

end Sys2Proof.Claim

/-! ## Words: requests -/

namespace Sys2Proof.Claim

open Sys2Proof.Machine

/-- A request of a client with a session, under a new sequence, in SERVING or HOLD: it is evaluated and neither a duplicate nor refused
for mode or session. -/
abbrev Asks (s : State) (x : Exchange) (w : Nat) (d : Bool) (seq : RequestSeq) : Prop :=
  Awaits s x w d ∧ served s = true ∧ Present s x.target ∧ NewSequence s x.target seq

/-- A client record is changed and, with a request of the client, its answer stored. -/
abbrev withClient (t : State) (c : Slot) (f : ClientRuntime → ClientRuntime) : State := withRecord t c (f t.ct[c])

/-- The zone list has a first zone with the property, the zones before it being without it. -/
abbrev FirstZone (zs : List ZoneId) (p : ZoneId → Prop) (z : ZoneId) : Prop :=
  ∃ l r, zs = l ++ z :: r ∧ p z ∧ ∀ y ∈ l, ¬ p y

/-- An immediate grant into slot `b` (R35): SERVING, every zone available and unnamed, and `b` the lowest empty slot. -/
abbrev GrantedInto (s : State) (zs : List ZoneId) (b : BundleId) : Prop :=
  s.mc.mode = .serving ∧ (∀ z ∈ zs, Available s z ∧ ¬ Named s z) ∧ LowestEmpty s b

/-- No immediate grant is made (R35). -/
abbrev NotGranted (s : State) (zs : List ZoneId) : Prop :=
  s.mc.mode ≠ .serving ∨ (∃ z ∈ zs, ¬ Available s z ∨ Named s z) ∨ TableFull s

/-- An edge of the waiting client with the zones `zs`, behind the entries `older`, leads to client `d` (R51). -/
abbrev EdgeTo (s : State) (older : List Entry) (zs : List ZoneId) (d : Slot) : Prop :=
  (∃ z ∈ zs, s.ge.zones[z].closed = false ∧ s.ge.zones[z].fences = 0 ∧
      s.ge.zones[z].holders.length = s.cu.catalogue.zones[z].capacity ∧
      ∃ b ∈ s.ge.zones[z].holders, ∃ y, s.ge.bundles[b] = some y ∧ y.holder = d) ∨
    ∃ e ∈ older, e.client = d ∧ ∃ z ∈ e.zones, z ∈ zs

/-- A wait-for edge from a client with a pending entry (R51). -/
def WaitEdge (s : State) (c d : Slot) : Prop :=
  ∃ older e younger, s.ge.entries = older ++ e :: younger ∧ e.client = c ∧ (∀ e' ∈ older, e'.client ≠ c) ∧
    EdgeTo s older e.zones d

/-- The requester can be reached from itself by wait-for edges (R52). -/
def Reaches (s : State) (c : Slot) (zs : List ZoneId) : Prop :=
  ∃ d, EdgeTo s s.ge.entries zs d ∧ Relation.ReflTransGen (WaitEdge s) d c

end Sys2Proof.Claim

/-! ## Words: tables -/

namespace Sys2Proof.Claim

open Sys2Proof.Machine

/-- The bundle `y` is the grant of the entry `e` with the clock at `now` (R26, R55). -/
abbrev GrantOf (e : Entry) (now : Word) (y : Bundle) : Prop :=
  y.holder = e.client ∧ y.tag = e.tag ∧ y.term = e.term ∧ y.zones = e.zones ∧ y.deadline = now + e.term.zeroExtend 32 ∧
    y.renews = 0#8

/-- The token is carried by no bundle (R25). -/
abbrev TokenFree (s : State) (token : Half) : Prop := ∀ (b : BundleId) (y : Bundle), s.ge.bundles[b] = some y → y.token ≠ token

/-- The client takes notices: its record is in use and it is JOINED or SILENT (R102). -/
abbrev TakesNotices (s : State) (c : Slot) : Prop :=
  s.cu.catalogue.clients[c].enabled = true ∧ (s.ct[c].state = .joined ∨ s.ct[c].state = .silent)

/-- The record of a client to which a notice has been posted (R102, R103). -/
def noticed (s : State) (c : Slot) (body : NoticeBody) : ClientRuntime :=
  if TakesNotices s c then
    { s.ct[c] with
      outbox := if s.ct[c].outbox.length < 8 then s.ct[c].outbox ++ [{ seq := s.ct[c].nextNotice, body := body }]
        else [{ seq := s.ct[c].nextNotice, body := .resync }]
      nextNotice := s.ct[c].nextNotice + 1#8 }
  else s.ct[c]

/-- A scan has granted the entry (R55): a bundle in the lowest empty slot (R24), the entry gone, GRANT posted. -/
def scanGranted (s : State) (e : Entry) : State :=
  match (List.finRange 64).find? fun b => s.ge.bundles[b].isNone with
  | some b => (entryGone (s.createBundle b e.client e.tag e.term e.zones) e.client).postNotice e.client
      (.grant e.tag b s.nextToken ((s.lt.clock + e.term.zeroExtend 32).extractLsb' 0 16))
  | none => s

end Sys2Proof.Claim

/-! ## Words: the commit and the mailbox -/

namespace Sys2Proof.Claim

open Sys2Proof.Machine

/-- The memory `after` is `before` with the bytes from an address on replaced. -/
abbrev Written (before after : List Host.Cell) (base : Nat) (bytes : List Byte) : Prop :=
  ∀ a : Nat, nvRead a after = if base ≤ a ∧ a < base + bytes.length then bytes.getD (a - base) 0#8 else nvRead a before

/-- The commit goes on at a page in a phase. -/
abbrev committing (s : State) (r : CommitRecord) (phase : CommitPhase) (page : Fin 64) (nv : List Host.Cell) : State :=
  { s with cm := { s.cm with nv := nv, commit := some { r with phase := phase, page := page } } }

/-- The commit has failed (R169): no record, FAILED, NV_FAULT for the target, and NV_FAILED with target, cause and page decided. -/
abbrev commitFailed (s : State) (r : CommitRecord) (copy : Block) (cause : Byte) (nv : List Host.Cell) : State :=
  { s with
    cm := { s.cm with nv := nv, commit := none, commitState := .failed }
    attn := s.attn.post (.nvFault r.target) s.lt.clock
    si := { s.si with mailbox := .busy copy (some
      { result := .nvFailed, contents := [BitVec.ofNat 8 r.target.val, cause, BitVec.ofNat 8 r.page.val] }) } }

/-- The commit has succeeded (R168). -/
abbrev commitSucceeded (s : State) (r : CommitRecord) (copy : Block) (nv : List Host.Cell) : State :=
  { s with
    cm := { s.cm with nv := nv, active := some (r.target, r.generation), commit := none, commitState := .succeeded }
    cu := { s.cu with dirty := false }
    si := { s.si with mailbox := .busy copy (some
      { result := .doneOk, contents := BitVec.ofNat 8 r.target.val :: be32 r.generation }) } }

/-- The commit runs, and the COMMIT holds the mailbox with no response yet (R150). -/
abbrev Commits (s : State) (r : CommitRecord) (copy : Block) : Prop :=
  s.cm.commit = some r ∧ s.si.mailbox = .busy copy none

/-- The rows that only CONFIG accepts, with their command codes (Tables 8-2 and 11-10). -/
abbrev configRows : List (Instr × Byte) :=
  [(.setZone, 0x10#8), (.setClient, 0x11#8), (.setParameters, 0x12#8), (.clearCatalogue, 0x13#8), (.revert, 0x14#8),
   (.commit true, 0x19#8), (.commit false, 0x19#8)]

/-- The rows that only SERVING and HOLD accept. -/
abbrev serviceRows : List (Instr × Byte) :=
  [(.closeZone, 0x20#8), (.openZone, 0x21#8), (.clearFence, 0x22#8), (.revokeBundle, 0x23#8), (.withdrawRequest, 0x26#8),
   (.hold, 0x42#8), (.resume, 0x43#8)]

/-- The rows that every mode but BOOT accepts. -/
abbrev runningRows : List (Instr × Byte) :=
  [(.readZoneRecord, 0x15#8), (.readClientRecord, 0x16#8), (.readParameters, 0x17#8), (.freeze, 0x18#8),
   (.readZoneState, 0x24#8), (.readBundle, 0x25#8), (.readPending, 0x27#8), (.readLeaseClock, 0x28#8), (.barClient, 0x30#8),
   (.unbarClient, 0x31#8), (.readClientState, 0x32#8), (.fetchAttention, 0x38#8), (.restart, 0x44#8)]

/-- Every row that is a write to EXECUTE. -/
abbrev executeRows : List Instr :=
  (configRows ++ serviceRows ++ runningRows).map (fun r => r.1) ++ [.start, .stop, .badCommand, .executeOverrun]

/-- The rows that read a byte, with its address (Table 11-8). -/
abbrev readRows : List (Instr × PortAddress) :=
  [(.readStatus1, 0x01#7), (.readLeaseClockLatch, 0x04#7), (.readResultByte, 0x2A#7)]

/-- The codes of the commands (Table 11-10). -/
abbrev codesInUse : List Byte := 0x40#8 :: 0x41#8 :: (configRows ++ serviceRows ++ runningRows).map fun r => r.2

/-- A byte of a read transaction has been shifted out: the byte at 01H clears the overrun flag, that at 04H takes the latch, that at 2AH
ends DONE, and the address advances (R143, R144, R146, R149, R152). -/
def byteRead (s : State) : State :=
  match s.si.port with
  | .reading a =>
    { s with si := { s.si with
        sdo := some (s.windowByte a)
        port := .reading (a + 1#7)
        overrun := if a = 0x01#7 then false else s.si.overrun
        latch := if a = 0x04#7 then s.lt.clock else s.si.latch
        mailbox := if a = 0x2A#7 ∧ s.si.mailbox = .done then .idle else s.si.mailbox } }
  | .inactive | .inert | .writing _ => s

/-- The two mode bits of STATUS0 (Table 11-8). -/
abbrev modeCode : Mode → BitVec 2
  | .boot => 0b00#2
  | .config => 0b01#2
  | .serving => 0b10#2
  | .hold => 0b11#2

/-- The two mailbox bits of STATUS1. -/
abbrev mailboxCode : Mailbox → BitVec 2
  | .idle => 0b00#2
  | .busy _ _ => 0b01#2
  | .done => 0b10#2

/-- The two commit-state bits of STATUS1. -/
abbrev commitCode : CommitState → BitVec 2
  | .none => 0b00#2
  | .running => 0b01#2
  | .succeeded => 0b10#2
  | .failed => 0b11#2

/-- The byte at each address of the window (Table 11-8). -/
structure WindowShows (s : State) : Prop where
  status0 : s.windowByte 0x00#7 = 0b00#2 ++ BitVec.ofBool s.mc.holdLine ++ BitVec.ofBool s.mc.holdCommand ++ 0b00#2 ++
    modeCode s.mc.mode
  status1 : s.windowByte 0x01#7 = BitVec.ofBool s.attn.overflow ++ BitVec.ofBool s.si.overrun ++ BitVec.ofBool s.cu.dirty ++
    BitVec.ofBool s.cu.freeze ++ commitCode s.cm.commitState ++ mailboxCode s.si.mailbox
  cause : s.windowByte 0x02#7 = match s.mc.cause with | .powerOn => 0x01#8 | .line => 0x02#8 | .restart => 0x03#8
  attentions : s.windowByte 0x03#7 = BitVec.ofNat 8 s.attn.entries.length
  clock : s.windowByte 0x04#7 = s.lt.clock.extractLsb' 24 8
  latch : s.windowByte 0x05#7 = s.si.latch.extractLsb' 16 8 ∧ s.windowByte 0x06#7 = s.si.latch.extractLsb' 8 8 ∧
    s.windowByte 0x07#7 = s.si.latch.extractLsb' 0 8
  alertEnable : s.windowByte 0x08#7 = 0b000000#6 ++ BitVec.ofBool s.si.completionSwitch ++ BitVec.ofBool s.si.attentionSwitch
  command : ∀ i : Fin 32, s.windowByte (BitVec.ofNat 7 (0x09 + i.val)) = s.si.commandBlock[i]
  execute : s.windowByte 0x29#7 = 0x00#8
  response : ∀ i : Fin 32, s.windowByte (BitVec.ofNat 7 (0x2A + i.val)) = s.si.responseBlock[i]
  unassigned : ∀ a : PortAddress, 0x4A ≤ a.toNat → s.windowByte a = 0x00#8

/-- The records of clients after an edit: a record whose enabled flag changed holds the reset values, any other stays (R9). -/
abbrev clientsAfter (s : State) (clients : Vector ClientRecord 32) : Vector ClientRuntime 32 :=
  Vector.ofFn fun c : Slot =>
    if s.cu.catalogue.clients[c].enabled = clients[c].enabled then s.ct[c]
    else { state := .absent, session := none, misses := 0, last := none, outbox := [], nextNotice := 0#8 }

/-- The working catalogue has been replaced. -/
abbrev catalogued (s : State) (cat : Catalogue) (dirty : Bool) : State :=
  { s with cu := { s.cu with catalogue := cat, dirty := dirty }, ct := clientsAfter s cat.clients }

/-- The response block holds this response (R148): result, command code, contents, then 00H. -/
abbrev HoldsResponse (block : Block) (result code : Byte) (contents : List Byte) : Prop :=
  block.toList = result :: code :: contents ++ List.replicate (30 - contents.length) 0#8

end Sys2Proof.Claim

/-! ## The machine -/

section
open Sys2Proof Sys2Proof.Machine Sys2Proof.Safety Sys2Proof.Claim

/-- A step runs the command at the front of the queue on the state with the queue's rest; every command is taken in every state and leaves
the commands behind it, so that the part stops on nothing. On an empty queue the block idles (the model's choice, log 1). -/
def Obligations.StepRunsFrontCommand : Prop :=
  (∀ (c : Instr) (s : State), step { s with pending := c :: s.pending } = exec c s) ∧
    (∀ s : State, s.pending = [] → step s = .next s) ∧
  ∀ (i : Instr) (s : State), ∃ t : State, exec i s = .next t ∧ t.pending = s.pending

/-! ## Resets and start-up -/

/-- Each kind of reset, taken in any state, leaves every block at its reset values, with its cause, start choice and freeze flag (R173,
Table 10-1, R16, R182), and the banks as they were when no commit is running (R158). RST_RELEASED ends the hold and changes nothing else
(R173). -/
def Obligations.ResetsLeaveResetValues : Prop :=
  ResetValues State.reset ∧
  (∀ s : State, ∃ t, exec .powerOnReset s = .next t ∧ ResetValues t ∧ t.mc.cause = .powerOn ∧ t.mc.startChoice = .auto ∧
    t.cu.freeze = false ∧ (s.cm.commit = none → t.cm.nv = s.cm.nv)) ∧
  (∀ s : State, s.mc.rst = false → ∃ t, exec .lineReset s = .next t ∧ ResetValues t ∧ t.mc.cause = .line ∧
    t.mc.startChoice = .auto ∧ t.cu.freeze = false ∧ t.mc.rst = true ∧ (s.cm.commit = none → t.cm.nv = s.cm.nv)) ∧
  (∀ (s : State) (choice : StartChoice), Ready s 0x44#8 → s.mc.mode ≠ .boot →
    arg s 0 = (match choice with | .auto => 0x00#8 | .config => 0x01#8) →
    ∃ t, exec .restart s = .next t ∧ ResetValues t ∧ t.mc.cause = .restart ∧ t.mc.startChoice = choice ∧
      t.cu.freeze = s.cu.freeze ∧ (s.cm.commit = none → t.cm.nv = s.cm.nv)) ∧
  ∀ s : State, exec .rstReleased s = .next { s with mc := { s.mc with rst := false } }

/-- While RST is asserted the part is held in reset, whatever comes (R173). -/
def Obligations.RstHoldsPartInReset : Prop :=
  ∀ s t : State, HeldInReset s → step s = .next t → HeldInReset t

/-- A bank is UNMARKED without its marker, VALID with the marker, a generation from 1 to FFFFFFFEH, a matching CRC-32 and a catalogue whose
every field is acceptable, and CORRUPT otherwise (R159, R160). The load at the end of BOOT chooses the active bank by the lines of Table
9-4 and makes its hand-overs (R162, R163). -/
def Obligations.LoadChoosesActiveBank : Prop :=
  (∀ (nv : List Host.Cell) (b : Bank),
    let marked := nvReadList (nvAddress b 63 4) 4 nv = markerLayout
    let stored := nvReadList (nvAddress b 0 0) 1194 nv
    let sound (g : Word) (cat : Catalogue) : Prop :=
      g = wordAt nv (nvAddress b 63 0) ∧ g ≠ 0#32 ∧ g ≠ 0xFFFFFFFF#32 ∧ imageCrcOf stored g = wordAt nv (nvAddress b 62 28) ∧
        CatalogueStored stored cat ∧ Acceptable cat
    (classifyBank nv b = .unmarked ↔ ¬ marked) ∧
    (∀ g cat, classifyBank nv b = .valid g cat ↔ marked ∧ sound g cat) ∧
    (classifyBank nv b = .corrupt ↔ marked ∧ ∀ g cat, ¬ sound g cat)) ∧
  ∀ s : State, s.mc.mode = .boot → s.mc.rst = false → ∃ t, exec .catalogueLoad s = .next t ∧
    t.cm = { s.cm with active := t.cm.active } ∧ t.cu.freeze = s.cu.freeze ∧
    t.attn = faultPosted s 1 (faultPosted s 0 s.attn) ∧ (∀ c : Slot, t.ct[c] = absentRecord) ∧
    (∀ g0 c0 g1 c1, classifyBank s.cm.nv 0 = .valid g0 c0 → classifyBank s.cm.nv 1 = .valid g1 c1 →
      if g0.toNat < g1.toNat then LoadedFrom t 1 g1 c1 else LoadedFrom t 0 g0 c0) ∧
    (∀ g0 c0, classifyBank s.cm.nv 0 = .valid g0 c0 → (∀ g1 c1, classifyBank s.cm.nv 1 ≠ .valid g1 c1) →
      LoadedFrom t 0 g0 c0) ∧
    (∀ g1 c1, classifyBank s.cm.nv 1 = .valid g1 c1 → (∀ g0 c0, classifyBank s.cm.nv 0 ≠ .valid g0 c0) →
      LoadedFrom t 1 g1 c1) ∧
    ((∀ (d : Bank) (g : Word) (cat : Catalogue), classifyBank s.cm.nv d ≠ .valid g cat) →
      t.cm.active = none ∧ t.cu.catalogue = blankCatalogue ∧ t.cu.dirty = true)

/-- The mode that follows BOOT is chosen by the lines of Table 10-3 against the catalogue just loaded, the start choice becomes AUTO, the
clock starts, the receiver enters HUNT, and a part that enters service has its zone state table set up (R175, R176, R22). -/
def Obligations.LoadChoosesMode : Prop :=
  ∀ s : State, s.mc.mode = .boot → s.mc.rst = false → s.mc.holdCommand = false → s.mc.holdLine = false →
    ∃ t, exec .catalogueLoad s = .next t ∧ t.mc.startChoice = .auto ∧ t.mc.holdCommand = false ∧ t.mc.cause = s.mc.cause ∧
      t.lt = { s.lt with tick := some t.cu.catalogue.params.tickPeriod } ∧ t.li = { s.li with receiver := .hunt } ∧
      t.es = s.es ∧ t.si = s.si ∧ t.ge = { s.ge with zones := t.ge.zones } ∧
      (t.cm.active = none ∨ s.mc.startChoice = .config ∨ t.cu.catalogue.params.autostart = false →
        t.mc.mode = .config ∧ t.mc.holdLine = false ∧ t.ge.zones = s.ge.zones) ∧
      (t.cm.active ≠ none → s.mc.startChoice = .auto → t.cu.catalogue.params.autostart = true →
        (t.mc.mode = if s.mc.stopin then .hold else .serving) ∧ t.mc.holdLine = s.mc.stopin ∧
          ∀ z : ZoneId, t.ge.zones[z] =
            { closed := t.cu.catalogue.zones[z].startClosed, holders := [], fences := 0 })

/-! ## Time -/

/-- A tick that ends advances the clock by one, modulo 2^32, and begins the next tick with the tick period as it stands (R66, R67, R71); a
stopped clock ends no tick, and nothing else moves the clock but a reset, which sets it to 0. The examination of the expiry queue is then
open when the deadline of the bundle at its head has passed against the new clock (R71), and the wait-alarm examination when the wait alarm
is not 0 (R80); that this stands in two fields is the model's choice (log 8). -/
def Obligations.TickAdvancesClock : Prop :=
  (∀ (s : State) (p : Nat), s.lt.tick = some p → ∃ t, exec .tick s = .next t ∧ t = { s with lt := t.lt } ∧
    t.lt.clock = s.lt.clock + 1#32 ∧ t.lt.tick = some s.cu.catalogue.params.tickPeriod ∧ t.lt.queue = s.lt.queue ∧
    (t.lt.lapseOpen = true ↔ ∃ (b : BundleId) (rest : List BundleId), s.lt.queue = b :: rest ∧
      (s.lt.clock + 1#32 - deadlineIn s.ge.bundles b).toNat < 2 ^ 31) ∧
    (t.lt.alarmOpen = true ↔ s.cu.catalogue.params.waitAlarm ≠ 0#16)) ∧
  (∀ s : State, s.lt.tick = none → exec .tick s = .next s) ∧
  ∀ (i : Instr) (s t : State), exec i s = .next t →
    t.lt.clock = s.lt.clock ∨ (i = .tick ∧ t.lt.clock = s.lt.clock + 1#32) ∨ (t.mc.mode = .boot ∧ t.lt.clock = 0#32)

/-- In the examination that a tick has opened, the bundle at the head whose deadline has passed ends under its zones' policies, LAPSED goes
to its holder with the fenced marks, and in SERVING a scan runs (R71, R72, R73). The examination is open as long as the new head's deadline
has passed; that it opens at a tick and closes then is the model's own bookkeeping (log 8). -/
def Obligations.LapseEndsHeadBundle : Prop :=
  ∀ (s : State) (b : BundleId) (rest : List BundleId) (x : Bundle), s.lt.lapseOpen = true → s.lt.queue = b :: rest →
    s.ge.bundles[b] = some x → (s.lt.clock - x.deadline).toNat < 2 ^ 31 →
    ∃ u t : State,
      u = ((s.endBundle b fun z => s.cu.catalogue.zones[z].policy).postNotice x.holder
        (.lapsed b x.tag (x.zones.map fun z => (z, s.cu.catalogue.zones[z].policy == .fence)))).requestScan ∧
      exec .lapse s = .next t ∧ t = { u with lt := { u.lt with lapseOpen := t.lt.lapseOpen } } ∧
      (t.lt.lapseOpen = true ↔ ∃ (d : BundleId) (l : List BundleId), u.lt.queue = d :: l ∧
        (u.lt.clock - deadlineIn u.ge.bundles d).toNat < 2 ^ 31)

/-- The wait-alarm examination that a tick has opened posts WAITING for every entry whose flag is clear and which has waited at least the
wait alarm, head to tail, and sets its flag; it changes nothing else (R80). Its being open is the model's own field (log 8). -/
def Obligations.WaitAlarmPostsWaiting : Prop :=
  ∀ s : State, s.lt.alarmOpen = true → s.cu.catalogue.params.waitAlarm ≠ 0#16 →
    let due : Entry → Bool := fun e =>
      !e.alarmed && decide (s.cu.catalogue.params.waitAlarm.toNat ≤ (s.lt.clock - e.stamp).toNat)
    exec .waitAlarmExamination s = .next { s with
      ge := { s.ge with entries := s.ge.entries.map fun e => if due e then { e with alarmed := true } else e }
      attn := (s.ge.entries.filter due).foldl (fun a e => a.post (.waiting e.client) s.lt.clock) s.attn
      lt := { s.lt with alarmOpen := false } }

/-- A new insertion stands behind every bundle whose deadline is earlier than or equal to its own and before the others, and the others
keep their order, when the deadlines lie within 2^31 of a base and the queue is in order (R68, R70). -/
def Obligations.InsertionKeepsDeadlineOrder : Prop :=
  ∀ (deadline : BundleId → Word) (base : Word) (b : BundleId) (queue : List BundleId),
    (∀ x ∈ b :: queue, (deadline x - base).toNat < 2 ^ 31) →
    queue.Pairwise (fun x y => (deadline x - base).toNat ≤ (deadline y - base).toNat) →
    ∃ front back : List BundleId, queue = front ++ back ∧ insertByDeadline deadline b queue = front ++ b :: back ∧
      (∀ x ∈ front, deadline x = deadline b ∨
        (1 ≤ (deadline b - deadline x).toNat ∧ (deadline b - deadline x).toNat < 2 ^ 31)) ∧
      (∀ y ∈ back, 1 ≤ (deadline y - deadline b).toNat ∧ (deadline y - deadline b).toNat < 2 ^ 31) ∧
      (front ++ b :: back).Pairwise (fun x y => (deadline x - base).toNat ≤ (deadline y - base).toNat)

/-! ## Modes -/

/-- Hold reason LINE follows STOPIN while the mode is SERVING or HOLD, and the mode follows the reasons; in BOOT and CONFIG a change of
STOPIN sets no reason (R180). A return to SERVING runs one grant scan. -/
def Obligations.StopinMovesTheMode : Prop :=
  ∀ (s : State) (line : Bool),
    let row : Instr := if line then .stopinAsserted else .stopinDeasserted
    (served s = false → exec row s = .next { s with mc := { s.mc with stopin := line } }) ∧
    (served s = true → (line = true ∨ s.mc.holdCommand = true) →
      exec row s = .next { s with mc := { s.mc with stopin := line, holdLine := line, mode := .hold } }) ∧
    (s.mc.mode = .hold → line = false → s.mc.holdCommand = false →
      exec row s = .next
        { s with mc := { s.mc with stopin := false, holdLine := false, mode := .serving } }.requestScan) ∧
    (s.mc.mode = .serving → line = false → s.mc.holdCommand = false →
      exec row s = .next { s with mc := { s.mc with stopin := false, holdLine := false } })

/-- HOLD sets hold reason COMMAND, RESUME removes it, and the mode follows, with one grant scan on a return to SERVING; each answers the
mode and both reasons, and each is refused WRONG_MODE in BOOT and CONFIG (R179). -/
def Obligations.HoldAndResume : Prop :=
  (∀ s : State, s.mc.mode = .boot ∨ s.mc.mode = .config →
    (Ready s 0x42#8 → exec .hold s = .next (refusedWith s .wrongMode [])) ∧
    (Ready s 0x43#8 → exec .resume s = .next (refusedWith s .wrongMode []))) ∧
  (∀ s : State, Ready s 0x42#8 → served s = true →
    exec .hold s = .next (decided s { s with mc := { s.mc with holdCommand := true, mode := .hold } } .doneOk
      [if s.mc.holdLine then 0x33#8 else 0x13#8])) ∧
  (∀ s : State, Ready s 0x43#8 → served s = true → s.mc.holdLine = true →
    exec .resume s = .next (decided s { s with mc := { s.mc with holdCommand := false, mode := .hold } } .doneOk [0x23#8])) ∧
  (∀ s : State, Ready s 0x43#8 → s.mc.mode = .hold → s.mc.holdLine = false →
    exec .resume s = .next (decided s
      { taken s with mc := { s.mc with holdCommand := false, mode := .serving } }.requestScan .doneOk [0x02#8])) ∧
  ∀ s : State, Ready s 0x43#8 → s.mc.mode = .serving → s.mc.holdLine = false →
    exec .resume s = .next (decided s { s with mc := { s.mc with holdCommand := false } } .doneOk [0x02#8])

/-- START brings a part in CONFIG into service: SERVING or HOLD by STOPIN, with the zone state table set up; it is refused BUSY during a
commit and UNCOMMITTED while the dirty flag is set (R176, R177, R22). -/
def Obligations.StartEntersService : Prop :=
  ∀ s : State, Ready s 0x40#8 → s.mc.mode = .config →
    (s.cm.commit = none → s.cu.dirty = false →
      exec .start s = .next (decided s
        { s with mc := { s.mc with mode := if s.mc.stopin then .hold else .serving, holdLine := s.mc.stopin,
                                   holdCommand := false }
                 ge := { s.ge with zones := s.cu.catalogue.zones.map fun r =>
                   { closed := r.startClosed, holders := [], fences := 0 } } }
        .doneOk [if s.mc.stopin then 0x03#8 else 0x02#8])) ∧
    (s.cm.commit ≠ none → exec .start s = .next (refusedWith s .busy [])) ∧
    (s.cm.commit = none → s.cu.dirty = true → exec .start s = .next (refusedWith s .uncommitted []))

/-- STOP in SERVING returns a quiescent part to CONFIG, with every JOINED and SILENT client ABSENT and cleared but for its next notice
sequence (R99, R178); with a bundle, an entry or a fence it is refused NOT_QUIESCENT with the three counts. -/
def Obligations.StopNeedsQuiescence : Prop :=
  ∀ s : State, Ready s 0x41#8 → s.mc.mode = .serving →
    let fenced := s.ge.zones.toList.countP fun z => decide (z.fences ≠ 0)
    let ends : Slot → Bool := fun c =>
      s.cu.catalogue.clients[c].enabled && (s.ct[c].state == .joined || s.ct[c].state == .silent)
    (liveIds s = [] ∧ s.ge.entries = [] ∧ fenced = 0 →
      exec .stop s = .next (decided s
        { s with mc := { s.mc with mode := .config }
                 ct := Vector.ofFn fun c : Slot =>
                   if ends c then { state := .absent, session := none, misses := 0, last := none, outbox := [],
                                    nextNotice := s.ct[c].nextNotice }
                   else s.ct[c] }
        .doneOk [BitVec.ofNat 8 ((List.finRange 32).countP ends)])) ∧
    (¬ (liveIds s = [] ∧ s.ge.entries = [] ∧ fenced = 0) →
      exec .stop s = .next (refusedWith s .notQuiescent
        [BitVec.ofNat 8 (liveIds s).length, BitVec.ofNat 8 s.ge.entries.length, BitVec.ofNat 8 fenced]))

/-- The mode changes by the events of Chapter 10 alone (R172, R174, R177 to R182). -/
def Obligations.ModeChangesByItsEventsAlone : Prop :=
  ∀ (i : Instr) (s t : State), HoldReasons s → exec i s = .next t →
    t.mc.mode = s.mc.mode ∨
    (t.mc.mode = .boot ∧ (i = .powerOnReset ∨ i = .lineReset ∨ i = .restart)) ∨
    (s.mc.mode = .boot ∧ i = .catalogueLoad) ∨
    (s.mc.mode = .config ∧ (t.mc.mode = .serving ∨ t.mc.mode = .hold) ∧ i = .start) ∨
    (s.mc.mode = .serving ∧ t.mc.mode = .config ∧ i = .stop) ∨
    (s.mc.mode = .serving ∧ t.mc.mode = .hold ∧ (i = .hold ∨ i = .stopinAsserted)) ∨
    (s.mc.mode = .hold ∧ t.mc.mode = .serving ∧ (i = .resume ∨ i = .stopinDeasserted))

/-! ## The lease bus -/

/-- What the receiver does with a good character follows Table 6-4 (R114, R116, R118, R120); a framing error and the gap limit abandon the
frame in assembly, and after a framing error the receiver waits until the line reads 1 (R111, R117, R119). A receiver that does not listen
takes none. The one row stands for the whole sampled character or fault (the model's choice, logs 2 and 17). -/
def Obligations.ReceiverFollowsItsTable : Prop :=
  (∀ (s : State) (d : Byte),
    (¬ Listens s → ∀ m : Bool, exec (.characterReceived m d) s = .next s) ∧
    (Listens s → s.li.receiver = .hunt →
      exec (.characterReceived false d) s = .next s ∧
      exec (.characterReceived true d) s = .next ((receiving s (.headerKind d)).takeReports [.frameStart])) ∧
    (Listens s → InFrame s → exec (.characterReceived true d) s =
      .next ((receiving s (.headerKind d)).takeReports [.abandoned .superseded, .frameStart])) ∧
    (∀ a, Listens s → s.li.receiver = .headerKind a →
      exec (.characterReceived false d) s = .next (receiving s (.headerLength a d))) ∧
    (∀ a k, Listens s → s.li.receiver = .headerLength a k →
      (56 < d.toNat → exec (.characterReceived false d) s =
        .next ((receiving s .hunt).takeReports [.abandoned .length])) ∧
      (d = 0#8 → exec (.characterReceived false d) s = .next (receiving s (.check a k 0#8 [] none))) ∧
      (1 ≤ d.toNat → d.toNat ≤ 56 → exec (.characterReceived false d) s = .next (receiving s (.body a k d [])))) ∧
    (∀ a k n l, Listens s → s.li.receiver = .body a k n l →
      exec (.characterReceived false d) s = .next (receiving s
        (if l.length + 1 = n.toNat then .check a k n (l ++ [d]) none else .body a k n (l ++ [d])))) ∧
    (∀ a k n l, Listens s → s.li.receiver = .check a k n l none →
      exec (.characterReceived false d) s = .next (receiving s (.check a k n l (some d)))) ∧
    ∀ a k n l h, Listens s → s.li.receiver = .check a k n l (some h) →
      exec (.characterReceived false d) s = .next ((receiving s .hunt).takeReports
        [if frameCrc (a :: k :: BitVec.ofNat 8 l.length :: l) = h ++ d then
          .delivered { address := a, kind := k, body := l } else .abandoned .crc])) ∧
  ∀ s : State,
    (Listens s → s.li.receiver = .hunt →
      exec .framingError s = .next { s with li := { s.li with lineHeld := true } }) ∧
    (Listens s → InFrame s → exec .framingError s =
      .next (({ s with li := { s.li with receiver := .hunt, lineHeld := true } }).takeReport (.abandoned .framing))) ∧
    (¬ Listens s → exec .framingError s = .next s) ∧
    (InFrame s → exec .gapLimitExpiry s = .next ((receiving s .hunt).takeReport (.abandoned .gap))) ∧
    (¬ InFrame s → exec .gapLimitExpiry s = .next s) ∧
    (s.li.receiver ≠ .off → s.li.receiver ≠ .muted →
      exec .lineReturnsTo1 s = .next { s with li := { s.li with lineHeld := false } }) ∧
    (s.li.receiver = .off ∨ s.li.receiver = .muted → exec .lineReturnsTo1 s = .next s)

/-- A frame as the transmitter sends it is received whole: its characters, taken from HUNT one after the other, are reported as one FRAME
START and one delivery of its address, kind and body, and the receiver is in HUNT again (R112 to R116, R120, R122). -/
def Obligations.SentFrameIsReceivedWhole : Prop :=
  ∀ (address kind : Byte) (body : List Byte), BodyFits body →
    (frameChars address kind body).foldl receive (.hunt, []) =
      (.hunt, [.frameStart, .delivered { address := address, kind := kind, body := body }])

/-- Reports are taken one by one in their order (R121). In AWAITING the first FRAME START makes the deciding frame, whose delivery or
abandonment decides the exchange; every other report is outside any exchange and is discarded (R133, R134, R139). When no frame has begun
in the reply window the exchange fails: a miss of a JOINED client that still stands is counted, and with the miss limit it falls silent
(R89, R135). -/
def Obligations.ExchangeIsDecidedByItsFrame : Prop :=
  (∀ (s : State) (reports : List Report), s.takeReports reports = reports.foldl (fun t rep => t.takeReport rep) s) ∧
  (∀ (s : State) (r : Report),
    ((∀ x w d, s.es.exchange ≠ .awaiting x w d) → s.takeReport r = s) ∧
    (∀ x w, s.es.exchange = .awaiting x w false →
      s.takeReport r =
        if r = .frameStart then { s with es := { s.es with exchange := .awaiting x w true } } else s) ∧
    ∀ x w, s.es.exchange = .awaiting x w true →
      (r = .frameStart → s.takeReport r = s) ∧ ∀ cause, r = .abandoned cause → FailedBy s x (s.takeReport r)) ∧
  ∀ (s : State) (x : Exchange) (w : Nat),
    (s.es.exchange = .awaiting x w false → ∃ t, exec .replyWindowTimeout s = .next t ∧ FailedBy s x t) ∧
    (s.es.exchange = .awaiting x w true → exec .replyWindowTimeout s = .next s)

/-- The last CRC character of the deciding frame decides the exchange by Table 7-3 (R134): a valid IDLE or REQUEST is the reply row of its
fields (R136, R137), and any other frame fails the exchange (R135). What a REQUEST asks is read by Table 11-5; a body with an unknown kind,
with another number of argument bytes than its kind has, or with a zone count above 6 or other than its zones, makes no request (R184).
That the reply rows stand for a whole frame is the model's choice (log 5). -/
def Obligations.DecidingFrameIsJudged : Prop :=
  ((∀ s1 s0 : Byte, parseRequest [0x01#8, s1, s0] = .join (s1 ++ s0)) ∧ parseRequest [0x02#8] = .leave ∧
  (∀ (tag w t1 t0 : Byte) (zones : List Byte), zones.length ≤ 6 →
    parseRequest (0x03#8 :: tag :: w :: t1 :: t0 :: BitVec.ofNat 8 zones.length :: zones) =
      .acquire tag (w.getLsbD 0) (t1 ++ t0) zones) ∧
  (∀ tag : Byte, parseRequest [0x04#8, tag] = .cancel tag) ∧
  (∀ b k1 k0 t1 t0 : Byte, parseRequest [0x05#8, b, k1, k0, t1, t0] = .renew b (k1 ++ k0) (t1 ++ t0)) ∧
  (∀ b k1 k0 z : Byte, parseRequest [0x06#8, b, k1, k0, z] = .release b (k1 ++ k0) z) ∧ parseRequest [0x07#8] = .status ∧
  parseRequest [] = .malformed ∧
  (∀ (k : Byte) (l : List Byte), k = 0#8 ∨ 7 < k.toNat → parseRequest (k :: l) = .malformed) ∧
  (∀ p ∈ ([(0x01#8, 2), (0x02#8, 0), (0x04#8, 1), (0x05#8, 5), (0x06#8, 4), (0x07#8, 0)] : List (Byte × Nat)), ∀ l : List Byte,
    l.length ≠ p.2 → parseRequest (p.1 :: l) = .malformed) ∧
  (∀ l : List Byte, l.length < 5 → parseRequest (0x03#8 :: l) = .malformed) ∧
  ∀ (tag w t1 t0 n : Byte) (zones : List Byte), 6 < n.toNat ∨ zones.length ≠ n.toNat →
    parseRequest (0x03#8 :: tag :: w :: t1 :: t0 :: n :: zones) = .malformed) ∧
  ∀ (s : State) (x : Exchange) (w : Nat) (f : Frame) (d : Byte), s.es.exchange = .awaiting x w true → Listens s →
    LastCharacter s f d →
    let own := f.address.getLsbD 7 = false ∧ (f.address &&& 0x3F#8).toNat = x.address
    (own → f.kind = 0x11#8 → f.body = [] → exec (.characterReceived false d) s = exec (.idle none) s) ∧
    (∀ n, own → f.kind = 0x11#8 → f.body = [n] → exec (.characterReceived false d) s = exec (.idle (some n)) s) ∧
    (∀ b0 b1 rest, own → f.kind = 0x12#8 → f.body = b0 :: b1 :: rest →
      exec (.characterReceived false d) s = exec (requestRow (b0.truncate 4)
        (if b0.getLsbD 7 = true then some b1 else none) (parseRequest rest)) s) ∧
    (¬ own ∨ (f.kind ≠ 0x11#8 ∧ f.kind ≠ 0x12#8) ∨ (f.kind = 0x11#8 ∧ 2 ≤ f.body.length) ∨
        (f.kind = 0x12#8 ∧ f.body.length < 2) →
      ∃ t, exec (.characterReceived false d) s = .next t ∧ FailedBy (receiving s .hunt) x t)

/-! ## Exchanges -/

/-- In SERVING or HOLD, in GAP and with the transmitter IDLE, the next exchange polls the client whose turn it is: a roll-call by Table 7-2
or else a rotation exchange, by its pointer, with pointer and counter moved on; the POLL carries the clock's low half and the oldest notice
of a JOINED client (R126 to R131). With no candidate, and at any other moment, none begins. -/
def Obligations.BeginExchangePollsWhoseTurnItIs : Prop :=
  ∀ s : State, CatalogueSound s →
    let ready := served s = true ∧ s.es.exchange = .gap ∧ s.li.transmitter = .idle
    (∀ c, ready → RollCallDue s → PickedFrom s (InRollCall s) s.es.rollCallPointer c →
      exec .beginExchange s = .next (polled s c (be16 (s.lt.clock.truncate 16))
        { s.es with rollCallPointer := pointerAfter (addressIn s c), rollCallCounter := 0 })) ∧
    (∀ c, ready → ¬ RollCallDue s → PickedFrom s (InRotation s) s.es.rotationPointer c →
      exec .beginExchange s = .next (polled s c
        (be16 (s.lt.clock.truncate 16) ++ (match s.ct[c].outbox with | n :: _ => noticeLayout n | [] => []))
        { s.es with rotationPointer := pointerAfter (addressIn s c), rollCallCounter := min (s.es.rollCallCounter + 1) 255 })) ∧
    (ready → (∀ c, ¬ InRotation s c) → (∀ c, ¬ InRollCall s c) → exec .beginExchange s = .next s) ∧
    (¬ ready → exec .beginExchange s = .next s)

/-- LBDE is active exactly while a frame is being sent; LBTX rests at 1 otherwise, and carries the frame's characters bit by bit behind one
bit time at 1 while it is sent, 11 bits a character (R110, R122). The end of the POLL opens the reply window with the parameter as it
stands, the end of the turnaround sends the ANSWER, and the end of the ANSWER ends the exchange (R122, R132, R138). With an idle
transmitter the row is an event that cannot occur and changes nothing (the model's choice, log 2), and a wait for the line at 1 after a
framing error outlives the transmission (the model's choice, log 17). -/
def Obligations.FramesSentMoveTheExchange : Prop :=
  (∀ s : State,
    (s.li.transmitter = .idle → s.lbdeActive = false ∧ s.lbtxLevels = [true]) ∧
    (∀ chars, s.li.transmitter = .sending chars → s.lbdeActive = true ∧ s.lbtxLevels = true :: chars.flatMap lineBits) ∧
    ∀ (address kind : Byte) (body : List Byte), s.li.transmitter = .sending (frameLayout address kind body) →
      s.lbtxLevels.length = 1 + 11 * (5 + body.length)) ∧
  ∀ (s : State) (x : Exchange) (a : StoredAnswer),
    let sent : State := { s with li := { s.li with transmitter := .idle, receiver := .hunt } }
    (∀ chars, s.li.transmitter = .sending chars → s.es.exchange = .polling x →
      exec .transmitDone s = .next { sent with es := { s.es with
        exchange := .awaiting x s.cu.catalogue.params.replyWindow false } }) ∧
    (∀ chars, s.li.transmitter = .sending chars → s.es.exchange = .answering x a true →
      exec .transmitDone s = .next (inGap sent)) ∧
    (s.li.transmitter = .idle → exec .transmitDone s = .next s) ∧
    (s.li.transmitter = .idle → s.es.exchange = .answering x a false → x.address ≤ 62 →
      exec .sendAnswer s = .next { s with
        li := { s.li with receiver := .muted,
                          transmitter := .sending (frameLayout (0x80#8 ||| BitVec.ofNat 8 x.address) 0x02#8
                            (a.seq.zeroExtend 8 :: answerLayout a.answer)) }
        es := { s.es with exchange := .answering x a true } })

/-- The client that falls silent is SILENT, its pending entry is gone, WITHDRAWN has been posted to it, its bundles have been cut, SILENT
is posted, and in SERVING a scan runs when it had an entry or holds bundles (R90, R59). The cut takes its bundles in ascending order of id.
A deadline that lies later than clock plus grace and has not passed becomes clock plus grace, and the bundle is taken out of the expiry
queue and inserted again under it; nothing else changes (R78, R70). -/
def Obligations.SilenceCutsBundles : Prop :=
  (∀ (s : State) (c : Slot), s.cu.catalogue.clients[c].enabled = true →
    let silent := withRecord s c { s.ct[c] with state := .silent }
    (¬ Waits s c → bundleCount s c = 0 → s.fallSilent c = silent.postAttention (.silent c)) ∧
    (¬ Waits s c → bundleCount s c ≠ 0 →
      s.fallSilent c = ((silent.silenceCut c).postAttention (.silent c)).requestScan) ∧
    ∀ e, entryFor s c = some e → s.fallSilent c =
      (((({ silent with ge := { s.ge with entries := s.ge.entries.filter fun e' => decide (e'.client ≠ c) } }).postNotice c
        (.withdrawn e.tag .silence)).silenceCut c).postAttention (.silent c)).requestScan) ∧
  ∀ (s : State) (c : Slot), QueueHoldsBundles s →
    let cut : Word := s.lt.clock + s.cu.catalogue.params.silenceGrace.zeroExtend 32
    let later : Bundle → Prop := fun y => y.holder = c ∧ 2 ^ 31 ≤ (s.lt.clock - y.deadline).toNat ∧
      1 ≤ (y.deadline - cut).toNat ∧ (y.deadline - cut).toNat < 2 ^ 31
    let t := s.silenceCut c
    t = { s with ge := { s.ge with bundles := t.ge.bundles }, lt := { s.lt with queue := t.lt.queue } } ∧
    t.lt.queue.Perm s.lt.queue ∧
    t = (heldBy s c).foldl (fun u b => match u.ge.bundles[b] with
      | some y => if later y then rescheduled u b { y with deadline := cut } else u
      | none => u) s ∧
    ∀ b : BundleId,
      (s.ge.bundles[b] = none → t.ge.bundles[b] = none) ∧
      ∀ y, s.ge.bundles[b] = some y →
        (later y → t.ge.bundles[b] = some { y with deadline := cut }) ∧ (¬ later y → t.ge.bundles[b] = some y)

/-! ## Replies -/

/-- A valid reply returns a SILENT client to JOINED with RETURNED posted, sets its miss count to 0 and applies its acknowledgement to its
outbox, in this order (R88, R91); an IDLE does that and ends the exchange (R136). -/
def Obligations.ReplyIsHeard : Prop :=
  (∀ (s : State) (c : Slot) (ack : Option Byte),
    let box := match ack with | some n => acknowledge n s.ct[c].outbox | none => s.ct[c].outbox
    (s.ct[c].state = .silent → s.acceptReply c ack =
      { s with ct := s.ct.set c { s.ct[c] with state := .joined, misses := 0, outbox := box }
               attn := s.attn.post (.returned c) s.lt.clock }) ∧
    (s.ct[c].state ≠ .silent → s.acceptReply c ack =
      { s with ct := s.ct.set c { s.ct[c] with misses := 0, outbox := box } })) ∧
  ∀ (s : State) (x : Exchange) (w : Nat) (d : Bool) (ack : Option Byte), Awaits s x w d →
    exec (.idle ack) s = .next (inGap (heard s x ack))

/-- The acknowledgement of a valid reply removes the notices up to and including the one with its number, when one is present, and nothing
otherwise; the notices behind it keep their order (R104). With an IDLE nothing else touches the outbox. -/
def Obligations.AcknowledgementEmptiesOutbox : Prop :=
  ∀ (s : State) (x : Exchange),
    let box (ack : Option Byte) (l : List Notice) : Prop := (heard s x ack).ct[x.target].outbox = l ∧
      ∀ w d, Awaits s x w d → ∃ t, exec (.idle ack) s = .next t ∧ t.ct[x.target].outbox = l
    (∀ (n : Byte) (old : List Notice) (y : Notice) (rest : List Notice),
      s.ct[x.target].outbox = old ++ y :: rest → y.seq = n → (∀ o ∈ old, o.seq ≠ n) → box (some n) rest) ∧
    (∀ n : Byte, (∀ y ∈ s.ct[x.target].outbox, y.seq ≠ n) → box (some n) s.ct[x.target].outbox) ∧
    box none s.ct[x.target].outbox

/-- A request under the sequence of the stored answer is a duplicate: the stored answer stands in the exchange record again and the request
is not evaluated (R105); a JOIN from an ABSENT client is never one. A reply of a client that the exchange was not begun with any more is
discarded, and the exchange ends (R140); a reply outside AWAITING changes nothing (R139; logs 2 and 5). -/
def Obligations.DuplicatesAndStrayRepliesActOnNothing : Prop :=
  (∀ (s : State) (x : Exchange) (w : Nat) (d : Bool) (a : StoredAnswer) (ack : Option Byte) (req : Request),
    Awaits s x w d → s.ct[x.target].last = some a → ((∃ session, req = .join session) → s.ct[x.target].state ≠ .absent) →
    exec (requestRow a.seq ack req) s = .next (exchanging (heard s x ack) (.answering x a false))) ∧
  ∀ (s : State) (row : Instr), ((∃ ack, row = .idle ack) ∨ ∃ seq ack req, row = requestRow seq ack req) →
    (∀ x w d, s.es.exchange = .awaiting x w d → ¬ Stands s x →
      exec row s = .next (inGap { s with li := { s.li with receiver := .hunt, lineHeld := false } })) ∧
    ((∀ x w d, s.es.exchange ≠ .awaiting x w d) → exec row s = .next s)

/-- A REQUEST that is no duplicate is answered MALFORMED when its body makes no request (R137), and a request other than JOIN NOT_SERVING
outside SERVING and HOLD and NOT_JOINED of an ABSENT client in them (R31, R38, R57, R74, R95, R107). RENEW and RELEASE of a bundle that is
not the client's are refused NO_SUCH_BUNDLE, and with another token BAD_TOKEN (R38, R74). -/
def Obligations.RequestsNeedModeSessionAndToken : Prop :=
  (∀ (s : State) (x : Exchange) (w : Nat) (d : Bool) (seq : RequestSeq) (ack : Option Byte),
    Awaits s x w d → NewSequence s x.target seq →
    exec (.malformedRequest seq ack) s = .next (refusedBy s x ack seq .malformed) ∧
    ∀ req, (∀ session, req ≠ .join session) → req ≠ .malformed →
      (∀ tag wait term zones, req = .acquire tag wait term zones → zones.length ≤ 6) →
      (served s = false → exec (requestRow seq ack req) s = .next (refusedBy s x ack seq .notServing)) ∧
      (served s = true → s.ct[x.target].state = .absent →
        exec (requestRow seq ack req) s = .next (refusedBy s x ack seq .notJoined))) ∧
  ∀ (s : State) (x : Exchange) (w : Nat) (d : Bool) (seq : RequestSeq) (ack : Option Byte) (bundle : Byte) (token term : Half)
    (zone : Byte), Asks s x w d seq →
    ((∀ (b : BundleId) (y : Bundle), bundle = bundleByte b → s.ge.bundles[b] = some y → y.holder ≠ x.target) →
      exec (.renew seq ack bundle token term) s = .next (refusedBy s x ack seq .noSuchBundle) ∧
      exec (.release seq ack bundle token zone) s = .next (refusedBy s x ack seq .noSuchBundle)) ∧
    ∀ (b : BundleId) (y : Bundle), bundle = bundleByte b → s.ge.bundles[b] = some y → y.holder = x.target → y.token ≠ token →
      exec (.renew seq ack bundle token term) s = .next (refusedBy s x ack seq .badToken) ∧
      exec (.release seq ack bundle token zone) s = .next (refusedBy s x ack seq .badToken)

/-- JOIN opens a session of an ABSENT client, resumes the same session, or ends the old session and opens a fresh one, with its bundles
ended one after another, ascending, under the zones' policies, its entry removed, its outbox cleared and a scan requested (R92, R93, R94).
LEAVE releases the client's bundles and removes its entry, makes it ABSENT with its session closed and its outbox empty, and requests a
scan (R95). -/
def Obligations.SessionsOpenAndClose : Prop :=
  (∀ (s : State) (x : Exchange) (w : Nat) (d : Bool) (seq : RequestSeq) (ack : Option Byte) (session : Half),
    let c := x.target
    let h := heard s x ack
    Awaits s x w d →
    (served s = true → session ≠ 0#16 → s.ct[c].state = .absent →
      exec (.join seq ack session) s = .next (answering
        (withClient h c fun r => { r with state := .joined, session := some session, misses := 0, last := none })
        x seq (.joined .new 0 false 0))) ∧
    (served s = true → session ≠ 0#16 → Present s c → NewSequence s c seq → s.ct[c].session = some session →
      exec (.join seq ack session) s = .next (refusedBy s x ack seq
        (.joined .resumed (bundleCount s c) (decide (Waits s c)) (h.ct[c].outbox.length)))) ∧
    (served s = true → session ≠ 0#16 → Present s c → NewSequence s c seq → s.ct[c].session ≠ some session →
      exec (.join seq ack session) s = .next (answering
        (withClient (entryGone (endedAll h (heldBy s c) fun z => s.cu.catalogue.zones[z].policy) c) c fun r =>
          { r with state := .joined, session := some session, misses := 0, last := none, outbox := [] }).requestScan
        x seq (.joined .fresh 0 false 0))) ∧
    (served s = false → (s.ct[c].state = .absent ∨ NewSequence s c seq) →
      exec (.join seq ack session) s = .next (refusedBy s x ack seq .notServing)) ∧
    (served s = true → (s.ct[c].state = .absent ∨ NewSequence s c seq) →
      exec (.join seq ack 0#16) s = .next (refusedBy s x ack seq .malformed))) ∧
  ∀ (s : State) (x : Exchange) (w : Nat) (d : Bool) (seq : RequestSeq) (ack : Option Byte), Asks s x w d seq →
    exec (.leave seq ack) s = .next (answering
      (withClient (entryGone (releasedAll (heard s x ack) (heldBy s x.target)) x.target) x.target fun r =>
        { r with state := .absent, session := none, misses := 0, outbox := [] }).requestScan
      x seq (.left (bundleCount s x.target)))

/-- ACQUIRE: a request that passes the eight checks is granted at once in SERVING when every zone is available and named by no entry and a
slot is empty, whatever its wait choice: the bundle is created in the lowest empty slot and GRANTED answered with its token and the low
half of its deadline (R35, R24, R26). -/
def Obligations.AcquireGrantsAtOnce : Prop :=
  ∀ (s : State) (x : Exchange) (w : Nat) (d : Bool) (seq : RequestSeq) (ack : Option Byte) (tag : Byte) (wait : Bool)
    (requested term : Half) (zs : List ZoneId) (b : BundleId),
    Awaits s x w d → NewSequence s x.target seq → Admissible s x.target zs requested term → GrantedInto s zs b →
    exec (.acquire seq ack tag wait requested (zoneBytes zs)) s = .next (answering
      ((heard s x ack).createBundle b x.target tag term zs) x seq (.granted b s.nextToken (deadlineLow s term)))

/-- ACQUIRE: a request that passes the eight checks and is not granted at once is answered by Table 2-6 when its client does not wait, with
no change to the Grant Engine; when it waits it is refused WOULD_DEADLOCK, or joins the tail of the pending list and is answered QUEUED
with its position (R36, R37, R49, R50, R52). -/
def Obligations.AcquireWaitsOrIsTurnedAway : Prop :=
  ∀ (s : State) (x : Exchange) (w : Nat) (d : Bool) (seq : RequestSeq) (ack : Option Byte) (tag : Byte)
    (requested term : Half) (zs : List ZoneId),
    Awaits s x w d → NewSequence s x.target seq → Admissible s x.target zs requested term → NotGranted s zs →
    let row (wait : Bool) : Instr := .acquire seq ack tag wait requested (zoneBytes zs)
    let blocked := ∃ z ∈ zs, ¬ Available s z ∨ Named s z
    (blocked → exec (row false) s = .next (refusedBy s x ack seq .unavailable)) ∧
    (¬ blocked → TableFull s → exec (row false) s = .next (refusedBy s x ack seq .tableFull)) ∧
    (¬ blocked → ¬ TableFull s → exec (row false) s = .next (refusedBy s x ack seq .holding)) ∧
    (Reaches s x.target zs → exec (row true) s = .next (refusedBy s x ack seq .wouldDeadlock)) ∧
    (¬ Reaches s x.target zs →
      let h := heard s x ack
      exec (row true) s = .next (answering
        { h with ge := { h.ge with
            entries := s.ge.entries ++ [{ client := x.target, tag := tag, term := term, zones := zs, stamp := s.lt.clock,
                                          arrival := s.ge.arrivalCounter, alarmed := false }]
            arrivalCounter := s.ge.arrivalCounter + 1#16 } }
        x seq (.queued (s.ge.entries.length + 1))))

/-- The checks 3 to 8 of ACQUIRE refuse in their order, and name the first zone that fails (R32, R33, R34). -/
def Obligations.AcquireChecksRefuseInOrder : Prop :=
  ∀ (s : State) (x : Exchange) (w : Nat) (d : Bool) (seq : RequestSeq) (ack : Option Byte) (tag : Byte) (wait : Bool)
    (requested : Half), Asks s x w d seq →
    let c := x.target
    let refused (bytes : List Byte) (a : Answer) : Prop :=
      exec (.acquire seq ack tag wait requested bytes) s = .next (refusedBy s x ack seq a)
    (∀ bytes : List Byte, bytes.length ≤ 6 → (bytes = [] ∨ ¬ bytes.Nodup) → refused bytes .malformed) ∧
    (∀ (zs : List ZoneId) (bad : Byte) (rest : List Byte), (zoneBytes zs ++ bad :: rest).length ≤ 6 →
      (zoneBytes zs ++ bad :: rest).Nodup → (∀ z ∈ zs, s.cu.catalogue.zones[z].enabled = true) →
      (128 ≤ bad.toNat ∨ ∃ z : ZoneId, bad = BitVec.ofNat 8 z.val ∧ s.cu.catalogue.zones[z].enabled = false) →
      refused (zoneBytes zs ++ bad :: rest) (.badZone bad)) ∧
    ∀ zs : List ZoneId, ZonesNamed s c zs →
      (∀ z, FirstZone zs (fun y => ¬ Permitted s c y) z → refused (zoneBytes zs) (.notPermitted z)) ∧
      ((∀ z ∈ zs, Permitted s c z) → ∀ m : Half, IsBoundingTerm s zs m →
        (m.toNat < requested.toNat → refused (zoneBytes zs) (.termRange m)) ∧
        (requested.toNat ≤ m.toNat →
          (∀ z, FirstZone zs (Holds s c) z → refused (zoneBytes zs) (.alreadyHeld z)) ∧
          ((∀ z ∈ zs, ¬ Holds s c z) →
            (Waits s c → refused (zoneBytes zs) .pendingExists) ∧
            (¬ Waits s c → s.cu.catalogue.clients[c].bundleLimit ≤ bundleCount s c →
              refused (zoneBytes zs) .clientLimit))))

/-- The deadlock check refuses a request exactly when its client can be reached from itself by wait-for edges through clients with pending
entries (R51, R52). -/
def Obligations.DeadlockCheckFindsEveryCycle : Prop :=
  ∀ (s : State) (c : Slot) (zs : List ZoneId), s.wouldDeadlock c zs = true ↔ Reaches s c zs

/-- CANCEL removes the client's entry when it carries the tag, and requests a scan; otherwise it is answered NOT_FOUND (R57). -/
def Obligations.CancelRemovesEntry : Prop :=
  ∀ (s : State) (x : Exchange) (w : Nat) (d : Bool) (seq : RequestSeq) (ack : Option Byte) (tag : Byte), Asks s x w d seq →
    (∀ e, entryFor s x.target = some e → e.tag = tag →
      exec (.cancel seq ack tag) s = .next (answering
        ({ heard s x ack with ge := { s.ge with
            entries := s.ge.entries.filter fun e' => decide (e'.client ≠ x.target) } }).requestScan x seq .cancelled)) ∧
    (∀ e, entryFor s x.target = some e → e.tag ≠ tag →
      exec (.cancel seq ack tag) s = .next (refusedBy s x ack seq .notFound)) ∧
    (¬ Waits s x.target → exec (.cancel seq ack tag) s = .next (refusedBy s x ack seq .notFound))

/-- RENEW of a bundle under its token sets term and deadline to the resolved term and the clock plus that term, counts the renewal up to
255 and takes the bundle out of the expiry queue and inserts it again under the new deadline; it is refused outside the bounding term and
beyond the renewal limit (R74, R75, R76). -/
def Obligations.RenewSetsDeadline : Prop :=
  ∀ (s : State) (x : Exchange) (w : Nat) (d : Bool) (seq : RequestSeq) (ack : Option Byte) (b : BundleId) (y : Bundle)
    (token requested m : Half),
    Asks s x w d seq → Presents s x.target b y token → IsBoundingTerm s y.zones m →
    let row : Instr := .renew seq ack (bundleByte b) token requested
    let renews : Byte := BitVec.ofNat 8 (min (y.renews.toNat + 1) 255)
    (∀ term, ResolvesTo m requested term → RenewalAdmitted s y.zones y.renews →
      exec row s = .next (answering
        (rescheduled (heard s x ack) b
          { y with term := term, deadline := s.lt.clock + term.zeroExtend 32, renews := renews })
        x seq (.renewed (deadlineLow s term) renews))) ∧
    (m.toNat < requested.toNat → exec row s = .next (refusedBy s x ack seq (.termRange m))) ∧
    (requested.toNat ≤ m.toNat → ¬ RenewalAdmitted s y.zones y.renews →
      exec row s = .next (refusedBy s x ack seq (.limit y.renews)))

/-- RELEASE of all zones, or of one, of a bundle under its token gives those zones up, requests a scan and answers how many zones remain
(R38, R39); a zone the bundle does not hold is refused NOT_HELD. -/
def Obligations.ReleaseGivesUpZones : Prop :=
  ∀ (s : State) (x : Exchange) (w : Nat) (d : Bool) (seq : RequestSeq) (ack : Option Byte) (b : BundleId) (y : Bundle)
    (token : Half),
    Asks s x w d seq → Presents s x.target b y token →
    let row (zone : Byte) : Instr := .release seq ack (bundleByte b) token zone
    exec (row 0xFF#8) s = .next (answering ((heard s x ack).giveUpZones b y y.zones).requestScan x seq (.released 0)) ∧
    (∀ z ∈ y.zones, y.zones.Nodup → exec (row (BitVec.ofNat 8 z.val)) s =
      .next (answering ((heard s x ack).giveUpZones b y [z]).requestScan x seq (.released (y.zones.length - 1)))) ∧
    ∀ zone : Byte, zone ≠ 0xFF#8 → (∀ z ∈ y.zones, zone ≠ BitVec.ofNat 8 z.val) →
      exec (row zone) s = .next (refusedBy s x ack seq .notHeld)

/-- STATUS answers the tag of the client's entry and its bundles in ascending order of id, each with its token, its remaining ticks and its
zones, and changes nothing (R107). -/
def Obligations.StatusReportsLeases : Prop :=
  ∀ (s : State) (x : Exchange) (w : Nat) (d : Bool) (seq : RequestSeq) (ack : Option Byte), Asks s x w d seq →
    exec (.status seq ack) s = .next (refusedBy s x ack seq (.status
      ((s.ge.entries.find? fun e => decide (e.client = x.target)).map fun e => e.tag)
      ((List.finRange 64).filterMap fun b => match s.ge.bundles[b] with
        | some y =>
          if y.holder = x.target then
            some { bundle := b, token := y.token, zones := y.zones
                   remaining := if (s.lt.clock - y.deadline).toNat < 2 ^ 31 then 0#16
                     else (y.deadline - s.lt.clock).truncate 16 }
          else none
        | none => none)))

/-- A reply of one client leaves the bundles of every other client as they are (R38, R39, R74, R95, R54). -/
def Obligations.RepliesTouchNoOtherClientsBundle : Prop :=
  ∀ (s t : State) (x : Exchange) (w : Nat) (d : Bool) (row : Instr), s.es.exchange = .awaiting x w d →
    ((∃ ack, row = .idle ack) ∨ ∃ seq ack req, row = requestRow seq ack req) → exec row s = .next t →
    ∀ (b : BundleId) (y : Bundle), s.ge.bundles[b] = some y → y.holder ≠ x.target → t.ge.bundles[b] = some y

/-! ## The Grant Engine -/

/-- A bundle is created with the first value from the token counter on that is neither 0 nor a live token, found within 66 examinations;
its record, its holder entries, its place in the expiry queue and the counter follow, and nothing else changes (R25, R26). -/
def Obligations.CreationFillsBundle : Prop :=
  ∀ (s : State) (b : BundleId) (c : Slot) (tag : Byte) (term : Half) (zs : List ZoneId), s.ge.bundles[b] = none → zs.Nodup →
    let t := s.createBundle b c tag term zs
    ∃ k : Nat, k < 66 ∧ s.nextToken = s.ge.tokenCounter + BitVec.ofNat 16 k ∧ s.nextToken ≠ 0#16 ∧ TokenFree s s.nextToken ∧
      (∀ j < k, s.ge.tokenCounter + BitVec.ofNat 16 j = 0#16 ∨ ¬ TokenFree s (s.ge.tokenCounter + BitVec.ofNat 16 j)) ∧
      t = { s with
        ge := { s.ge with
          tokenCounter := s.nextToken + 1#16
          zones := t.ge.zones
          bundles := s.ge.bundles.set b (some { holder := c, tag := tag, token := s.nextToken, term := term,
                                                 deadline := s.lt.clock + term.zeroExtend 32, renews := 0#8, zones := zs }) }
        lt := { s.lt with queue := insertByDeadline (deadlineIn t.ge.bundles) b s.lt.queue } } ∧
      ∀ z : ZoneId, t.ge.zones[z] =
        if z ∈ zs then { s.ge.zones[z] with holders := s.ge.zones[z].holders ++ [b] } else s.ge.zones[z]

/-- The end of a bundle with a disposition, and the giving up of some of its zones, change the zones concerned, the bundle's slot, the
expiry queue and, for fences that rise from 0, the Attention Set, and nothing else (R27, R28). -/
def Obligations.EndsAndReleasesFreeTheirUnits : Prop :=
  ∀ (s : State) (b : BundleId) (y : Bundle), s.ge.bundles[b] = some y → y.zones.Nodup →
    (∀ disposition : ZoneId → ExpiryPolicy,
      let t := s.endBundle b disposition
      t = { s with
        ge := { s.ge with bundles := s.ge.bundles.set b none, zones := t.ge.zones }
        lt := { s.lt with queue := s.lt.queue.erase b }
        attn := (y.zones.filter fun z => decide (disposition z = .fence ∧ s.ge.zones[z].fences = 0)).foldl
          (fun a z => a.post (.fenced z) s.lt.clock) s.attn } ∧
      ∀ z : ZoneId, t.ge.zones[z] =
        if z ∈ y.zones then
          { s.ge.zones[z] with holders := s.ge.zones[z].holders.erase b
                               fences := s.ge.zones[z].fences + if disposition z = .fence then 1 else 0 }
        else s.ge.zones[z]) ∧
    ∀ given : List ZoneId, given.Nodup →
      let t := s.giveUpZones b y given
      let left := y.zones.filter fun z => decide (z ∉ given)
      t = { s with
        ge := { s.ge with zones := t.ge.zones
                          bundles := s.ge.bundles.set b (if left = [] then none else some { y with zones := left }) }
        lt := { s.lt with queue := if left = [] then s.lt.queue.erase b else s.lt.queue } } ∧
      ∀ z : ZoneId, t.ge.zones[z] =
        if z ∈ given then { s.ge.zones[z] with holders := s.ge.zones[z].holders.erase b } else s.ge.zones[z]

/-- A grant scan in SERVING serves the pending list by age: every entry it removes is granted in an empty slot and shares no zone with an
older entry that stays, bundles come from nowhere else, and no entry that stays could still be granted without overtaking; in another mode
no scan runs (R53, R54). A scan is its grants one after another in list order, each with the lowest empty slot and the creation of a bundle
with its token, holder entries and place in the expiry queue (R24, R25, R26, R55). A grant posts GRANT with tag, bundle, token and the low
half of the deadline to the entry's client; a scan changes nothing else. -/
def Obligations.ScanServesByAge : Prop :=
  (∀ s : State, s.mc.mode ≠ .serving → s.requestScan = s) ∧
  ∀ s : State, s.mc.mode = .serving → (s.ge.entries.map fun e => e.client).Nodup →
    let t := s.requestScan
    t = (s.ge.entries.filter fun e => decide (e ∉ t.ge.entries)).foldl scanGranted s ∧
    t.ge.entries.Sublist s.ge.entries ∧
    (∀ older e younger, s.ge.entries = older ++ e :: younger → e ∉ t.ge.entries →
      (∃ (b : BundleId) (y : Bundle), s.ge.bundles[b] = none ∧ t.ge.bundles[b] = some y ∧ GrantOf e s.lt.clock y) ∧
        ∀ o ∈ older, o ∈ t.ge.entries → ∀ z ∈ e.zones, z ∉ o.zones) ∧
    (∀ (b : BundleId) (y : Bundle), s.ge.bundles[b] = some y → t.ge.bundles[b] = some y) ∧
    (∀ (b : BundleId) (y : Bundle), s.ge.bundles[b] = none → t.ge.bundles[b] = some y →
      ∃ e ∈ s.ge.entries, e ∉ t.ge.entries ∧ GrantOf e s.lt.clock y) ∧
    (∀ older e younger, t.ge.entries = older ++ e :: younger →
      TableFull t ∨ ∃ z ∈ e.zones, ¬ Available t z ∨ ∃ o ∈ older, z ∈ o.zones) ∧
    (∀ e ∈ s.ge.entries, e ∉ t.ge.entries → ∃ (b : BundleId) (y : Bundle), s.ge.bundles[b] = none ∧ t.ge.bundles[b] = some y ∧
      GrantOf e s.lt.clock y ∧ y.token ≠ 0#16 ∧ TokenFree s y.token ∧
      t.ct[e.client] = noticed s e.client (.grant e.tag b y.token (y.deadline.extractLsb' 0 16))) ∧
    (∀ c : Slot, (∀ e ∈ s.ge.entries, e.client = c → e ∈ t.ge.entries) → t.ct[c] = s.ct[c]) ∧
    t.attn = (s.ge.entries.filter fun e => decide (e ∉ t.ge.entries ∧ TakesNotices s e.client ∧
        8 ≤ s.ct[e.client].outbox.length)).foldl (fun a e => a.post (.resync e.client) s.lt.clock) s.attn ∧
    (∀ z : ZoneId, ∃ new : List BundleId, t.ge.zones[z] = { s.ge.zones[z] with holders := s.ge.zones[z].holders ++ new } ∧
      ∀ b : BundleId, b ∈ new ↔ s.ge.bundles[b] = none ∧ ∃ y, t.ge.bundles[b] = some y ∧ z ∈ y.zones) ∧
    s.lt.queue.Sublist t.lt.queue ∧
    (∀ b : BundleId, b ∈ t.lt.queue ↔ b ∈ s.lt.queue ∨ (s.ge.bundles[b] = none ∧ ∃ y, t.ge.bundles[b] = some y)) ∧
    t = { s with
      ge := { s.ge with zones := t.ge.zones, bundles := t.ge.bundles, entries := t.ge.entries, tokenCounter := t.ge.tokenCounter }
      lt := { s.lt with queue := t.lt.queue }, ct := t.ct, attn := t.attn } ∧
    (t.ge.entries = s.ge.entries → t = s)

/-- Outside SERVING nothing is granted: no slot of the bundle table that is empty before a command holds a bundle after it, unless the
command brings the part into SERVING (R35, R53, R172). -/
def Obligations.NoGrantOutsideServing : Prop :=
  ∀ (i : Instr) (s t : State), exec i s = .next t → s.mc.mode ≠ .serving → t.mc.mode ≠ .serving →
    ∀ b : BundleId, s.ge.bundles[b] = none → t.ge.bundles[b] = none

/-! ## Notices and attentions -/

/-- A notice to a JOINED or SILENT client in use joins its outbox under the next notice sequence; with 8 notices there a single RESYNC
takes the place of everything and RESYNC is posted; for any other client it is discarded (R102, R103). -/
def Obligations.NoticesJoinOutbox : Prop :=
  ∀ (s : State) (c : Slot) (body : NoticeBody),
    (TakesNotices s c → s.ct[c].outbox.length < 8 → s.postNotice c body =
      { s with ct := s.ct.set c { s.ct[c] with outbox := s.ct[c].outbox ++ [{ seq := s.ct[c].nextNotice, body := body }]
                                               nextNotice := s.ct[c].nextNotice + 1#8 } }) ∧
    (TakesNotices s c → 8 ≤ s.ct[c].outbox.length → s.postNotice c body =
      { s with ct := s.ct.set c { s.ct[c] with outbox := [{ seq := s.ct[c].nextNotice, body := .resync }]
                                               nextNotice := s.ct[c].nextNotice + 1#8 }
               attn := s.attn.post (.resync c) s.lt.clock }) ∧
    (¬ TakesNotices s c → s.postNotice c body = s)

/-- A posting raises the count of the entry of its pair up to 255, or appends an entry with count 1 and the clock, or with 48 entries is
dropped and sets the overflow flag (R154). FETCH_ATTENTION removes the oldest entry and answers it with the entries remaining and the
overflow flag, which is clear once the set is empty (R155). -/
def Obligations.AttentionsArePostedAndFetched : Prop :=
  (∀ (s : State) (what : Attention),
    (∀ l e r, s.attn.entries = l ++ e :: r → e.what = what → (∀ y ∈ l ++ r, y.what ≠ what) →
      s.postAttention what = { s with attn := { s.attn with
        entries := l ++ { e with count := BitVec.ofNat 8 (min (e.count.toNat + 1) 255) } :: r } }) ∧
    ((∀ e ∈ s.attn.entries, e.what ≠ what) → s.attn.entries.length < 48 →
      s.postAttention what = { s with attn := { s.attn with
        entries := s.attn.entries ++ [{ what := what, stamp := s.lt.clock, count := 1#8 }] } }) ∧
    ((∀ e ∈ s.attn.entries, e.what ≠ what) → 48 ≤ s.attn.entries.length →
      s.postAttention what = { s with attn := { s.attn with overflow := true } })) ∧
  ∀ s : State, Ready s 0x38#8 → s.mc.mode ≠ .boot →
    (s.attn.entries = [] →
      exec .fetchAttention s = .next (decided s { s with attn := { s.attn with overflow := false } } .doneOk
        (List.replicate 10 0#8))) ∧
    ∀ e rest, s.attn.entries = e :: rest →
      let flag := s.attn.overflow && !rest.isEmpty
      exec .fetchAttention s = .next (decided s { s with attn := { entries := rest, overflow := flag } } .doneOk
        (1#8 :: attentionLayout e.what ++ be32 e.stamp ++
          [e.count, BitVec.ofNat 8 rest.length, if flag then 1#8 else 0#8]))

/-! ## Supervisor commands on zones, bundles and requests -/

/-- CLOSE_ZONE and OPEN_ZONE set the closed flag, CLEAR_FENCE sets the fence count to 0 and answers what it was; an opening and a clear
request a scan (R41, R42, R43). A clear of no fence is refused NOT_FOUND. -/
def Obligations.ZoneCommandsSetFlagAndFences : Prop :=
  ∀ (s : State) (z : ZoneId), served s = true → arg s 0 = BitVec.ofNat 8 z.val →
    let r := s.ge.zones[z]
    (Ready s 0x20#8 → exec .closeZone s = .next (decided s (withZone s z { r with closed := true }) .doneOk [])) ∧
    (Ready s 0x21#8 → r.closed = true →
      exec .openZone s = .next (decided s (withZone (taken s) z { r with closed := false }).requestScan .doneOk [])) ∧
    (Ready s 0x21#8 → r.closed = false → exec .openZone s = .next (decided s s .doneOk [])) ∧
    (Ready s 0x22#8 → r.fences ≠ 0 → exec .clearFence s =
      .next (decided s (withZone (taken s) z { r with fences := 0 }).requestScan .doneOk [BitVec.ofNat 8 r.fences])) ∧
    (Ready s 0x22#8 → r.fences = 0 → exec .clearFence s = .next (refusedWith s .notFound []))

/-- REVOKE_BUNDLE ends a bundle under one disposition, posts REVOKED to its holder, requests a scan and answers holder, zones and fences
(R44). WITHDRAW_REQUEST removes the client's entry, posts WITHDRAWN to it, requests a scan and answers the tag and the position the entry
had (R58). An empty slot, or a client with no entry, is NOT_FOUND. -/
def Obligations.RevokeAndWithdrawTakeBack : Prop :=
  (∀ (s : State) (b : BundleId) (p : ExpiryPolicy), Ready s 0x23#8 → served s = true → arg s 0 = bundleByte b →
    arg s 1 = (match p with | .free => 0x00#8 | .fence => 0x01#8) →
    (s.ge.bundles[b] = none → exec .revokeBundle s = .next (refusedWith s .notFound [])) ∧
    ∀ y, s.ge.bundles[b] = some y → exec .revokeBundle s = .next (decided s
      (((taken s).endBundle b fun _ => p).postNotice y.holder
        (.revoked b y.tag (y.zones.map fun z => (z, decide (p = .fence))))).requestScan .doneOk
      [BitVec.ofNat 8 y.holder.val, BitVec.ofNat 8 y.zones.length,
        BitVec.ofNat 8 (match p with | .free => 0 | .fence => y.zones.length)])) ∧
  ∀ (s : State) (c : Slot), Ready s 0x26#8 → served s = true → arg s 0 = BitVec.ofNat 8 c.val →
    (¬ Waits s c → exec .withdrawRequest s = .next (refusedWith s .notFound [])) ∧
    ∀ older e younger, s.ge.entries = older ++ e :: younger → e.client = c → (∀ y ∈ older ++ younger, y.client ≠ c) →
      exec .withdrawRequest s = .next (decided s
        (({ taken s with ge := { s.ge with entries := older ++ younger } }).postNotice c
          (.withdrawn e.tag .supervisor)).requestScan .doneOk
        [e.tag, BitVec.ofNat 8 (older.length + 1)])

/-- READ_ZONE_STATE, READ_BUNDLE, READ_PENDING, READ_LEASE_CLOCK and READ_CLIENT_STATE answer what stands in the tables, in the bytes of
Chapter 11, and change nothing (R45, R46, R64, R84, R108, R183). -/
def Obligations.ReadsReportTables : Prop :=
  (∀ s : State, s.mc.mode ≠ .boot →
    (∀ z : ZoneId, Ready s 0x24#8 → arg s 0 = BitVec.ofNat 8 z.val →
      let r := s.ge.zones[z]
      exec .readZoneState s = .next (decided s s .doneOk
        ([ if r.closed = true then 4#8 else if r.fences ≠ 0 then 3#8
           else if r.holders.length = s.cu.catalogue.zones[z].capacity then 2#8
           else if r.holders ≠ [] then 1#8 else 0#8,
          if r.closed = true then 1#8 else 0#8, BitVec.ofNat 8 r.fences, BitVec.ofNat 8 r.holders.length] ++
          r.holders.flatMap fun b => [bundleByte b,
            match s.ge.bundles[b] with | some y => BitVec.ofNat 8 y.holder.val | none => 0#8]))) ∧
    (∀ b : BundleId, Ready s 0x25#8 → arg s 0 = bundleByte b →
      (s.ge.bundles[b] = none → exec .readBundle s = .next (refusedWith s .notFound [])) ∧
      ∀ y, s.ge.bundles[b] = some y → exec .readBundle s = .next (decided s s .doneOk
        ([BitVec.ofNat 8 y.holder.val, y.tag] ++ be16 y.token ++ be16 y.term ++ be32 y.deadline ++ [y.renews] ++
          be16 (if (s.lt.clock - y.deadline).toNat < 2 ^ 31 then 0#16 else (y.deadline - s.lt.clock).truncate 16) ++
          [BitVec.ofNat 8 y.zones.length] ++ zoneBytes y.zones))) ∧
    (Ready s 0x27#8 →
      (∀ older e younger, s.ge.entries = older ++ e :: younger → older.length < 32 →
        arg s 0 = BitVec.ofNat 8 (older.length + 1) → exec .readPending s = .next (decided s s .doneOk
          ([BitVec.ofNat 8 s.ge.entries.length, BitVec.ofNat 8 e.client.val, e.tag] ++ be16 e.term ++ be16 e.arrival ++
            be32 e.stamp ++ be32 (s.lt.clock - e.stamp) ++
            [if e.alarmed then 1#8 else 0#8, BitVec.ofNat 8 e.zones.length] ++ zoneBytes e.zones))) ∧
      (arg s 0 = 0#8 ∨ 32 < (arg s 0).toNat → exec .readPending s = .next (refusedWith s .badArgument [])) ∧
      (arg s 0 ≠ 0#8 → (arg s 0).toNat ≤ 32 → s.ge.entries.length < (arg s 0).toNat →
        exec .readPending s = .next (refusedWith s .notFound [BitVec.ofNat 8 s.ge.entries.length]))) ∧
    (Ready s 0x28#8 → ∀ p, s.lt.tick = some p → exec .readLeaseClock s = .next (decided s s .doneOk
      (be32 s.lt.clock ++ [BitVec.ofNat 8 p, BitVec.ofNat 8 s.lt.queue.length] ++
        (match s.lt.queue with
          | b :: _ => [1#8, bundleByte b] ++ be32 (deadlineIn s.ge.bundles b) ++
              be16 (if (s.lt.clock - deadlineIn s.ge.bundles b).toNat < 2 ^ 31 then 0#16
                else (deadlineIn s.ge.bundles b - s.lt.clock).truncate 16)
          | [] => [0#8, 0#8, 0#8, 0#8, 0#8, 0#8, 0#8, 0#8]) ++
        [BitVec.ofNat 8 (s.ge.entries.filter fun e => e.alarmed).length])))) ∧
  ∀ (s : State) (c : Slot), Ready s 0x32#8 → s.mc.mode ≠ .boot → s.cu.catalogue.clients[c].enabled = true →
    arg s 0 = BitVec.ofNat 8 c.val → bundleCount s c ≤ 4 →
    let r := s.ct[c]
    let ids := (heldBy s c).map bundleByte
    exec .readClientState s = .next (decided s s .doneOk
      ([match r.state with | .absent => 0#8 | .joined => 1#8 | .silent => 2#8 | .barred => 3#8,
          BitVec.ofNat 8 (addressIn s c)] ++
        (match r.session with | some h => 1#8 :: be16 h | none => [0#8, 0#8, 0#8]) ++
        [BitVec.ofNat 8 r.misses, BitVec.ofNat 8 ids.length] ++ ids ++ List.replicate (4 - ids.length) 0#8 ++
        (match entryFor s c with | some e => [1#8, e.tag] | none => [0#8, 0#8]) ++
        [BitVec.ofNat 8 r.outbox.length] ++
        (match r.outbox with | n :: _ => [1#8, n.seq] | [] => [0#8, 0#8]) ++ [r.nextNotice] ++
        (match r.last with | some a => [1#8, a.seq.zeroExtend 8] | none => [0#8, 0#8])))

/-- BAR_CLIENT ends the client's bundles, ascending, under one disposition with no notice, removes its entry, clears its record to BARRED,
sets the discard mark in the record of an exchange with it, whatever its stage, requests a scan and answers what it ended; a bar of a
BARRED client changes nothing. UNBAR_CLIENT makes a BARRED client ABSENT (R97, R98, R140). -/
def Obligations.BarAndUnbarClient : Prop :=
  ∀ (s : State) (c : Slot), s.mc.mode ≠ .boot → s.cu.catalogue.clients[c].enabled = true → arg s 0 = BitVec.ofNat 8 c.val →
    (∀ p : ExpiryPolicy, Ready s 0x30#8 → arg s 1 = (match p with | .free => 0x00#8 | .fence => 0x01#8) →
      (s.ct[c].state = .barred → exec .barClient s = .next (decided s s .doneOk [3#8, 0#8, 0#8, 0#8])) ∧
      (s.ct[c].state ≠ .barred →
        exec .barClient s = .next (decided s
          (discardMarked (withClient (entryGone (endedAll (taken s) (heldBy s c) fun _ => p) c) c fun r =>
            { r with state := .barred, session := none, misses := 0, last := none, outbox := [] }) c).requestScan
          .doneOk
          [match s.ct[c].state with | .absent => 0#8 | .joined => 1#8 | .silent => 2#8 | .barred => 3#8,
            BitVec.ofNat 8 (bundleCount s c),
            BitVec.ofNat 8 (match p with
              | .free => 0
              | .fence => ((heldBy s c).map fun b => match s.ge.bundles[b] with | some y => y.zones.length | none => 0).sum),
            if Waits s c then 1#8 else 0#8]))) ∧
    (Ready s 0x31#8 → s.ct[c].state = .barred →
      exec .unbarClient s = .next (decided s (withRecord s c { s.ct[c] with state := .absent }) .doneOk [])) ∧
    (Ready s 0x31#8 → s.ct[c].state ≠ .barred → exec .unbarClient s = .next (refusedWith s .notFound []))

/-! ## The catalogue -/

/-- In CONFIG, unfrozen and with no commit, SET_ZONE, SET_CLIENT and SET_PARAMETERS replace their record when every field is a value of its
table and no other enabled client has the address, and set the dirty flag; else they are refused BAD_ARGUMENT. CLEAR_CATALOGUE sets the
empty catalogue; REVERT takes the active bank's, or finds none, or finds the bank not VALID and posts NV_FAULT (R2 to R4, R7 to R12). -/
def Obligations.EditsReplaceCatalogue : Prop :=
  ∀ s : State, s.mc.mode = .config → s.cu.freeze = false → s.cm.commit = none →
    let cat := s.cu.catalogue
    (∀ (z : ZoneId) (r : ZoneRecord) (en cap cl pol t1 t0 lim sc : Byte) (rest : List Byte), Ready s 0x10#8 →
      arg s 0 = BitVec.ofNat 8 z.val → args s 1 = en :: cap :: cl :: pol :: t1 :: t0 :: lim :: sc :: rest →
      let fits := 1 ≤ cap.toNat ∧ cap.toNat ≤ 4 ∧ cl.toNat < 16 ∧ pol.toNat ≤ 1 ∧ t1 ++ t0 ≠ 0#16
      (fits → r.enabled = en.getLsbD 0 → r.capacity = cap.toNat → r.cls.val = cl.toNat →
        (r.policy = .fence ↔ pol = 1#8) → r.maxTerm = t1 ++ t0 → r.renewalLimit = lim → r.startClosed = sc.getLsbD 0 →
        exec .setZone s = .next (decided s
          { s with cu := { s.cu with catalogue := { cat with zones := cat.zones.set z r }, dirty := true } } .doneOk [])) ∧
      (¬ fits → exec .setZone s = .next (refusedWith s .badArgument []))) ∧
    (∀ (c : Slot) (en ad p1 p0 lim : Byte) (rest : List Byte), Ready s 0x11#8 →
      arg s 0 = BitVec.ofNat 8 c.val → args s 1 = en :: ad :: p1 :: p0 :: lim :: rest →
      let r : ClientRecord :=
        { enabled := en.getLsbD 0, address := ad.toNat, permissions := p1 ++ p0, bundleLimit := lim.toNat }
      let fits := 1 ≤ ad.toNat ∧ ad.toNat ≤ 62 ∧ 1 ≤ lim.toNat ∧ lim.toNat ≤ 4 ∧
        (en.getLsbD 0 = true → ∀ d : Slot, d ≠ c → cat.clients[d].enabled = true → cat.clients[d].address ≠ ad.toNat)
      (fits → exec .setClient s = .next (decided s (catalogued s { cat with clients := cat.clients.set c r } true) .doneOk [])) ∧
      (¬ fits → exec .setClient s = .next (refusedWith s .badArgument []))) ∧
    (∀ (p : Parameters) (tp rate rw ml rc g1 g0 w1 w0 au : Byte) (rest : List Byte), Ready s 0x12#8 →
      args s 0 = tp :: rate :: rw :: ml :: rc :: g1 :: g0 :: w1 :: w0 :: au :: rest →
      let fits := (1 ≤ tp.toNat ∧ tp.toNat ≤ 250) ∧ rate.toNat ≤ 7 ∧ (2 ≤ rw.toNat ∧ rw.toNat ≤ 63) ∧
        (1 ≤ ml.toNat ∧ ml.toNat ≤ 15) ∧ 1 ≤ rc.toNat
      (fits → p.tickPeriod = tp.toNat → linkRateCode p.linkRate = rate → p.replyWindow = rw.toNat → p.missLimit = ml.toNat →
        p.rollCallInterval = rc.toNat → p.silenceGrace = g1 ++ g0 → p.waitAlarm = w1 ++ w0 → p.autostart = au.getLsbD 0 →
        exec .setParameters s = .next (decided s
          { s with cu := { s.cu with catalogue := { cat with params := p }, dirty := true } } .doneOk [])) ∧
      (¬ fits → exec .setParameters s = .next (refusedWith s .badArgument []))) ∧
    (Ready s 0x13#8 → exec .clearCatalogue s = .next (decided s (catalogued s blankCatalogue true) .doneOk [])) ∧
    (Ready s 0x14#8 →
      (s.cm.active = none → exec .revert s = .next (refusedWith s .notFound [])) ∧
      ∀ b g, s.cm.active = some (b, g) →
        (∀ g' cat', classifyBank s.cm.nv b = .valid g' cat' →
          exec .revert s = .next (decided s (catalogued s cat' false) .doneOk [])) ∧
        ((∀ g' cat', classifyBank s.cm.nv b ≠ .valid g' cat') →
          exec .revert s = .next (decided s { s with attn := s.attn.post (.nvFault b) s.lt.clock } .nvFailed [])))

/-- READ_ZONE_RECORD, READ_CLIENT_RECORD and READ_PARAMETERS answer a record of the working catalogue in its bytes and change nothing, and
FREEZE sets the freeze flag and nothing else (R15, R17). -/
def Obligations.CatalogueReadsAndFreeze : Prop :=
  ∀ s : State, s.mc.mode ≠ .boot →
    (∀ z : ZoneId, Ready s 0x15#8 → arg s 0 = BitVec.ofNat 8 z.val →
      let r := s.cu.catalogue.zones[z]
      exec .readZoneRecord s = .next (decided s s .doneOk
        ([if r.enabled then 1#8 else 0#8, BitVec.ofNat 8 r.capacity, BitVec.ofNat 8 r.cls.val,
          match r.policy with | .free => 0#8 | .fence => 1#8] ++ be16 r.maxTerm ++
          [r.renewalLimit, if r.startClosed then 1#8 else 0#8]))) ∧
    (∀ c : Slot, Ready s 0x16#8 → arg s 0 = BitVec.ofNat 8 c.val →
      let r := s.cu.catalogue.clients[c]
      exec .readClientRecord s = .next (decided s s .doneOk
        ([if r.enabled then 1#8 else 0#8, BitVec.ofNat 8 r.address] ++ be16 r.permissions ++
          [BitVec.ofNat 8 r.bundleLimit]))) ∧
    (Ready s 0x17#8 →
      let p := s.cu.catalogue.params
      exec .readParameters s = .next (decided s s .doneOk
        ([BitVec.ofNat 8 p.tickPeriod, linkRateCode p.linkRate, BitVec.ofNat 8 p.replyWindow, BitVec.ofNat 8 p.missLimit,
          BitVec.ofNat 8 p.rollCallInterval] ++ be16 p.silenceGrace ++ be16 p.waitAlarm ++
          [if p.autostart then 1#8 else 0#8]))) ∧
    (Ready s 0x18#8 → exec .freeze s = .next (decided s { s with cu := { s.cu with freeze := true } } .doneOk []))

/-- A catalogue that holds only values of its tables is written to 1194 bytes, and these bytes read back as the same catalogue (R159,
R160). -/
def Obligations.CatalogueImageReadsBack : Prop :=
  ∀ cat : Catalogue, cat.valid = true →
    (catalogueBytes cat).length = 1194 ∧ parseCatalogue (catalogueBytes cat) = some cat

/-! ## The commit -/

/-- COMMIT is refused NV_PROTECTED with NVWE inactive and NV_FAILED with the generations spent; otherwise it begins: the target is the bank
that is not active, the generation one above the active one (bank 0 and 1 with none), the state RUNNING, and the erase of page 63 (R164,
R165). The erased bytes read FFH from this moment on (the model's choice, log 11). -/
def Obligations.CommitBegins : Prop :=
  ∀ s : State, Ready s 0x19#8 → s.mc.mode = .config → s.cu.freeze = false → s.cm.commit = none → NvCanonical s →
    exec (.commit false) s = .next (refusedWith s .nvProtected []) ∧
    (∀ b, s.cm.active = some (b, 0xFFFFFFFE#32) →
      exec (.commit true) s = .next (refusedWith s .nvFailed [0xFF#8, 0x04#8, 0xFF#8])) ∧
    ∀ (target : Bank) (generation : Word),
      ((s.cm.active = none ∧ target = 0 ∧ generation = 1#32) ∨
        ∃ b g, s.cm.active = some (b, g) ∧ g ≠ 0xFFFFFFFE#32 ∧ target ≠ b ∧ generation = g + 1#32) →
      ∃ t, exec (.commit true) s = .next t ∧
        t = { taken s with cm := { nv := t.cm.nv, active := s.cm.active, commitState := .running
                                   commit := some { target := target, generation := generation, phase := .erase, page := 63 } } } ∧
        Written s.cm.nv t.cm.nv (nvAddress target 63 0) (List.replicate 32 0xFF#8)

/-- Each operation of a commit that ends is read back: what should stand there takes the commit one step on, in the order page 63, pages 0
to 62, the image pages, the generation, the marker, and with the marker it succeeds; anything else fails it with the cause of its phase
(R166 to R169). NVWE that becomes inactive fails it with cause NVWE at the current page; the operation stops there, no other byte of the
memory changes, and the target stays without its marker (R166, R169). What is read back is the row's operand and the interrupted page holds
free bytes (the model's choices, logs 10 and 11). -/
def Obligations.CommitStepsAdvanceOrFail : Prop :=
  (∀ (s : State) (r : CommitRecord) (copy : Block) (readBack : List Byte), Commits s r copy → NvCanonical s →
    let base := nvAddress r.target r.page.val 0
    let wrote (place : Nat) (t : List Host.Cell → State) (row : Instr) : Prop :=
      ∃ nv, Written s.cm.nv nv place readBack ∧ exec row s = .next (t nv)
    (r.phase = .erase → readBack.length = 32 →
      (readBack = List.replicate 32 0xFF#8 →
        (r.page = 63 → wrote base (committing s r .erase 0) (.commitErasePageDone readBack)) ∧
        (r.page.val < 62 → wrote base (committing s r .erase (r.page + 1)) (.commitErasePageDone readBack)) ∧
        (r.page = 62 → wrote base (committing s r .program 0) (.commitErasePageDone readBack))) ∧
      (readBack ≠ List.replicate 32 0xFF#8 → (r.page = 63 → (readBack.drop 4).take 4 ≠ markerLayout) →
        wrote base (commitFailed s r copy 0x01#8) (.commitErasePageDone readBack))) ∧
    (r.phase = .program → r.page.val ≤ 62 → readBack.length = 32 →
      nvReadList base 32 s.cm.nv = List.replicate 32 0xFF#8 →
      let share := ((imageLayout s.cu.catalogue r.generation).drop (32 * r.page.val)).take 32
      (readBack = share → r.page.val < 62 →
        wrote base (committing s r .program (r.page + 1)) (.commitProgramPageDone readBack)) ∧
      (readBack = share → r.page = 62 →
        wrote base (committing s r .markGeneration 63) (.commitProgramPageDone readBack)) ∧
      (readBack ≠ share → wrote base (commitFailed s r copy 0x02#8) (.commitProgramPageDone readBack))) ∧
    (r.phase = .markGeneration → r.page = 63 → readBack.length = 4 →
      nvReadList (nvAddress r.target 63 0) 4 s.cm.nv = List.replicate 4 0xFF#8 →
      (readBack = be32 r.generation →
        wrote base (committing s r .markMarker 63) (.commitMarkGenerationDone readBack)) ∧
      (readBack ≠ be32 r.generation →
        wrote base (commitFailed s r copy 0x02#8) (.commitMarkGenerationDone readBack))) ∧
    (r.phase = .markMarker → r.page = 63 → readBack.length = 4 →
      nvReadList (nvAddress r.target 63 4) 4 s.cm.nv = List.replicate 4 0xFF#8 →
      (readBack = markerLayout →
        wrote (base + 4) (commitSucceeded s r copy) (.commitMarkMarkerDone readBack)) ∧
      (readBack ≠ markerLayout →
        wrote (base + 4) (commitFailed s r copy 0x02#8) (.commitMarkMarkerDone readBack)))) ∧
  ((∀ s : State, s.cm.commit = none → exec .nvweInactive s = .next s) ∧
  ∀ (s : State) (r : CommitRecord) (copy : Block), Commits s r copy → NvCanonical s →
    ∃ nv, exec .nvweInactive s = .next { commitFailed s r copy 0x03#8 nv with freeCount := s.freeCount + 1 } ∧
      (∀ a : Nat, (∀ i < 32, a ≠ nvAddress r.target r.page.val i) → nvRead a nv = nvRead a s.cm.nv) ∧
      (CommitProgress s r → nvReadList (nvAddress r.target 63 4) 4 nv ≠ markerLayout))

/-- No command, no failure of a commit and no reset writes a byte of the active bank (R165, R169, R170). -/
def Obligations.ActiveBankIsNeverWritten : Prop :=
  ∀ (i : Instr) (s t : State) (b : Bank) (g : Word), NvCanonical s → CommitSound s → exec i s = .next t →
    s.cm.active = some (b, g) →
    ∀ page i : Nat, page < 64 → i < 32 → nvRead (nvAddress b page i) t.cm.nv = nvRead (nvAddress b page i) s.cm.nv

/-- Whatever a commit is doing, a power failure costs no committed catalogue: the power-on reset and the load that follows bring back the
catalogue and the generation of the active bank, with the dirty flag clear (R162, R165, R170), whatever the free bytes of an interrupted
page are (log 10). -/
def Obligations.PowerFailureKeepsCommittedCatalogue : Prop :=
  ∀ (s : State) (b : Bank) (g : Word), BanksSound s → s.mc.mode ≠ .boot → s.mc.rst = false → s.cm.active = some (b, g) →
    ∃ (cat : Catalogue) (t u : State), classifyBank s.cm.nv b = .valid g cat ∧ exec .powerOnReset s = .next t ∧
      exec .catalogueLoad t = .next u ∧ LoadedFrom u b g cat

/-! ## The supervisor port -/

/-- A command in a mode that does not accept it is refused WRONG_MODE, an edit or COMMIT FROZEN while the freeze flag is set, and a zone,
slot, bundle, disposition or start choice out of range BAD_ARGUMENT; a client command on a slot not in use is NOT_FOUND. Nothing else
changes (Table 8-2, R6, R15, R96, R164, R185). -/
def Obligations.CommandsAreRefused : Prop :=
  ∀ s : State,
    (∀ r ∈ configRows, Ready s r.2 →
      (s.mc.mode ≠ .config → exec r.1 s = .next (refusedWith s .wrongMode [])) ∧
      (s.mc.mode = .config → s.cu.freeze = true → exec r.1 s = .next (refusedWith s .frozen [])) ∧
      (s.mc.mode = .config → s.cu.freeze = false → s.cm.commit ≠ none → exec r.1 s = .next (refusedWith s .busy []))) ∧
    (s.mc.mode = .config → s.cu.freeze = false → s.cm.commit = none →
      (Ready s 0x10#8 → 128 ≤ (arg s 0).toNat → exec .setZone s = .next (refusedWith s .badArgument [])) ∧
      (Ready s 0x11#8 → 32 ≤ (arg s 0).toNat → exec .setClient s = .next (refusedWith s .badArgument []))) ∧
    (∀ r ∈ serviceRows, Ready s r.2 → served s = false → exec r.1 s = .next (refusedWith s .wrongMode [])) ∧
    (∀ r ∈ runningRows, Ready s r.2 → s.mc.mode = .boot → exec r.1 s = .next (refusedWith s .wrongMode [])) ∧
    (Ready s 0x40#8 → s.mc.mode ≠ .config → exec .start s = .next (refusedWith s .wrongMode [])) ∧
    (Ready s 0x41#8 → s.mc.mode ≠ .serving → exec .stop s = .next (refusedWith s .wrongMode [])) ∧
    (∀ r ∈ ([(.closeZone, 0x20#8), (.openZone, 0x21#8), (.clearFence, 0x22#8)] : List (Instr × Byte)),
      Ready s r.2 → served s = true → 128 ≤ (arg s 0).toNat → exec r.1 s = .next (refusedWith s .badArgument [])) ∧
    (Ready s 0x23#8 → served s = true → 64 ≤ (arg s 0).toNat ∨ 2 ≤ (arg s 1).toNat →
      exec .revokeBundle s = .next (refusedWith s .badArgument [])) ∧
    (Ready s 0x26#8 → served s = true → 32 ≤ (arg s 0).toNat →
      exec .withdrawRequest s = .next (refusedWith s .badArgument [])) ∧
    (s.mc.mode ≠ .boot →
      (∀ r ∈ ([(.readZoneRecord, 0x15#8), (.readZoneState, 0x24#8)] : List (Instr × Byte)), Ready s r.2 →
        128 ≤ (arg s 0).toNat → exec r.1 s = .next (refusedWith s .badArgument [])) ∧
      (∀ r ∈ ([(.readClientRecord, 0x16#8), (.barClient, 0x30#8), (.unbarClient, 0x31#8), (.readClientState, 0x32#8)] :
          List (Instr × Byte)),
        Ready s r.2 → 32 ≤ (arg s 0).toNat → exec r.1 s = .next (refusedWith s .badArgument [])) ∧
      (Ready s 0x25#8 → 64 ≤ (arg s 0).toNat → exec .readBundle s = .next (refusedWith s .badArgument [])) ∧
      (Ready s 0x30#8 → 2 ≤ (arg s 1).toNat → exec .barClient s = .next (refusedWith s .badArgument [])) ∧
      (Ready s 0x44#8 → 2 ≤ (arg s 0).toNat → exec .restart s = .next (refusedWith s .badArgument [])) ∧
      ∀ c : Slot, s.cu.catalogue.clients[c].enabled = false → arg s 0 = BitVec.ofNat 8 c.val →
        (Ready s 0x30#8 → (arg s 1).toNat < 2 → exec .barClient s = .next (refusedWith s .notFound [])) ∧
        (Ready s 0x31#8 → exec .unbarClient s = .next (refusedWith s .notFound [])) ∧
        (Ready s 0x32#8 → exec .readClientState s = .next (refusedWith s .notFound [])))

/-- A write to EXECUTE while the mailbox is BUSY sets the overrun flag and changes nothing else, whatever code the command block holds, and
is not queued; a read of STATUS1 returns the flag as it stands and then clears it, every reset clears it, and nothing else does: a command
after which a set flag is clear has taken a reset or has read a byte at 01H (R149). That every row of a command is then the refused write,
whichever command it names, is the model's choice (log 2), and so is it that a read row that begins at another address reads the byte at
01H on its way (log 4). -/
def Obligations.OverrunIsFlaggedUntilRead : Prop :=
  ∀ s : State,
    (∀ row ∈ executeRows, s.si.port = .writing 0x29#7 → busy s = true →
      exec row s = .next { s with si := { s.si with overrun := true, port := .writing 0x2A#7 } }) ∧
    (∀ copy r, s.si.mailbox = .busy copy (some r) →
      ∃ t, exec .transactionEnd { s with si := { s.si with overrun := true, port := .writing 0x2A#7 } } = .next t ∧
        t.si.mailbox = .done ∧ t.si.overrun = true) ∧
    (s.si.port = .reading 0x01#7 →
      ∃ byte, exec .readStatus1 s =
          .next { s with si := { s.si with overrun := false, sdo := some byte, port := .reading 0x02#7 } } ∧
        byte.getLsbD 6 = s.si.overrun) ∧
    (∀ (i : Instr) (t : State), exec i s = .next t → s.si.overrun = true → t.si.overrun = false →
      ((i = .powerOnReset ∨ i = .lineReset ∨ i = .restart) ∧ ResetValues t) ∨
        ∃ r ∈ readRows, i = r.1 ∧ ∃ a, s.si.port = .reading a ∧ (0x01#7 - a).toNat ≤ (r.2 - a).toNat) ∧
    (∃ t, exec .powerOnReset s = .next t ∧ t.si.overrun = false) ∧
    (s.mc.rst = false → ∃ t, exec .lineReset s = .next t ∧ t.si.overrun = false) ∧
    (Ready s 0x44#8 → s.mc.mode ≠ .boot → (arg s 0).toNat < 2 → ∃ t, exec .restart s = .next t ∧ t.si.overrun = false)

/-- A write to EXECUTE with a code that names no command is answered BAD_COMMAND; a decided response is published when SCS is inactive or
becomes so, all 32 bytes at once, and the mailbox is then DONE until the result byte is read (R147, R148, R152). Publication is a row of
its own, and a transaction that begins while a decided response is still due finds it published (the model's choices, log 7). -/
def Obligations.MailboxPublishesResponses : Prop :=
  ∀ s : State,
    (s.si.port = .writing 0x29#7 → busy s = false → s.si.commandBlock[0] ∉ codesInUse →
      exec .badCommand s = .next (decided s s .badCommand [])) ∧
    (s.si.port = .writing 0x29#7 → busy s = true → exec .executeOverrun s =
      .next { s with si := { s.si with overrun := true, port := .writing 0x2A#7 } }) ∧
    (∀ copy r, s.si.mailbox = .busy copy (some r) → r.contents.length ≤ 30 → ∃ block : Block,
      HoldsResponse block (resultCode r.result) copy[0] r.contents ∧
      (s.si.port = .inactive →
        exec .publishResponse s = .next { s with si := { s.si with responseBlock := block, mailbox := .done } }) ∧
      (s.si.port = .inactive → s.mc.rst = false → ∀ byte : Byte,
        exec (.transactionBegin (some byte)) s = .next { s with
          si := { s.si with responseBlock := block, mailbox := .done, port := begun byte } } ∧
        exec (.transactionBegin none) s = .next { s with
          si := { s.si with responseBlock := block, mailbox := .done, port := .inert } }) ∧
      (s.si.port ≠ .inactive → exec .publishResponse s = .next s ∧
        exec .transactionEnd s = .next { s with
          si := { s.si with responseBlock := block, mailbox := .done, port := .inactive, sdo := none } })) ∧
    ((∀ copy r, s.si.mailbox ≠ .busy copy (some r)) → exec .publishResponse s = .next s ∧
      (s.si.port ≠ .inactive →
        exec .transactionEnd s = .next { s with si := { s.si with port := .inactive, sdo := none } })) ∧
    (s.si.port = .reading 0x2A#7 → exec .readResultByte s = .next { s with
      si := { s.si with mailbox := if s.si.mailbox = .done then .idle else s.si.mailbox
                        sdo := some s.si.responseBlock[0], port := .reading 0x2B#7 } })

/-- The window shows at each address what Table 11-8 gives, and a read shifts it out: a read row clocks its transaction on from the current
address, 00H after 7FH, each byte on the way read with its own effect, until its byte has been shifted out (R144, R145, R146; the model's
choice, log 4). A transaction begins with its direction and start address and advances by one address a byte; writes reach the alert enable
and the command block and are ignored elsewhere, the read at 04H latches the clock, SDO is driven in a transaction only, and ALERT follows
its two switches (R143, R144, R156). While RST is asserted the port takes no transaction (R173). A byte that has no row of its own is
WRITE_REGISTER or clocked past, and a row that begins a transaction while one is in progress changes nothing (the model's choices, logs 2,
3 and 4). -/
def Obligations.TransactionsReadAndWriteWindow : Prop :=
  ∀ s : State, WindowShows s ∧
    (∀ r ∈ readRows,
      (∀ a, s.si.port = .reading a → exec r.1 s = .next (byteRead^[(r.2 - a).toNat + 1] s)) ∧
      ((∀ a, s.si.port ≠ .reading a) → exec r.1 s = .next s)) ∧
    (s.sdoDriven = true ↔ s.si.port ≠ .inactive) ∧
    (s.mc.rst = false → s.si.port = .inactive → (∀ copy r, s.si.mailbox ≠ .busy copy (some r)) → ∀ byte : Byte,
      exec (.transactionBegin (some byte)) s = .next { s with si := { s.si with port := begun byte } } ∧
      exec (.transactionBegin none) s = .next { s with si := { s.si with port := .inert } }) ∧
    (s.mc.rst = true ∨ s.si.port ≠ .inactive → ∀ first, exec (.transactionBegin first) s = .next s) ∧
    (∀ value : Byte, s.si.port = .writing 0x08#7 → exec (.writeAlertEnable value) s = .next { s with
      si := { s.si with attentionSwitch := value.getLsbD 0, completionSwitch := value.getLsbD 1, port := .writing 0x09#7 } }) ∧
    (∀ (value : Byte) (i : Fin 32), s.si.port = .writing (BitVec.ofNat 7 (9 + i.val)) →
      exec (.writeRegister value) s = .next { s with si := { s.si with
        commandBlock := s.si.commandBlock.set i value, port := .writing (BitVec.ofNat 7 (10 + i.val)) } }) ∧
    (∀ (value : Byte) (a : PortAddress), s.si.port = .writing a → a.toNat < 0x08 ∨ 0x2A ≤ a.toNat →
      exec (.writeRegister value) s = .next { s with si := { s.si with port := .writing (a + 1#7) } }) ∧
    (s.si.port = .reading 0x04#7 → exec .readLeaseClockLatch s = .next { s with si := { s.si with
      latch := s.lt.clock, sdo := some (s.lt.clock.extractLsb' 24 8), port := .reading 0x05#7 } }) ∧
    (s.alertActive = true ↔ (s.si.attentionSwitch = true ∧ s.attn.entries ≠ []) ∨
      (s.si.completionSwitch = true ∧ s.si.mailbox = .done))

/-! ## Laws that every step keeps -/

/-- The part right after reset obeys every law below; its memory, lines and working catalogue are the model's choices (logs 9, 13, 14). -/
def Obligations.ResetObeysLaws : Prop :=
  LeasesSound State.reset ∧ HeadBlocked State.reset ∧ BanksSound State.reset ∧ AttentionSetSound State.reset ∧
    OutboxesSound State.reset ∧ HoldReasons State.reset ∧ LineFollowsStopin State.reset ∧ HeldInReset State.reset

/-- Every step keeps the laws of leases: units accounted for, bundles, entries and clients sound, one queue, distinct tokens, nothing
outside service, and in SERVING a head that cannot be granted (R3, R19, R22, R23, R25, R48, R50, R56, R69, R87). -/
def Obligations.StepKeepsLeasesSound : Prop :=
  ∀ s t : State, LeasesSound s → HeadBlocked s → step s = .next t → LeasesSound t ∧ HeadBlocked t

/-- Every step keeps the laws of the banks: canonical memory, a valid working catalogue, the commit's progress, a VALID active bank with
the highest generation, and the dirty flag telling the truth (R2 to R4, R13, R14, R160, R161, R164 to R168). -/
def Obligations.StepKeepsBanksSound : Prop :=
  ∀ s t : State, BanksSound s → step s = .next t → BanksSound t

/-- Every step keeps the laws of the Attention Set, the outboxes and the hold reasons (R101, R153, R155, R172, R180). -/
def Obligations.StepKeepsFlagsSound : Prop :=
  ∀ s t : State, AttentionSetSound s → OutboxesSound s → HoldReasons s → LineFollowsStopin s → step s = .next t →
    AttentionSetSound t ∧ OutboxesSound t ∧ HoldReasons t ∧ LineFollowsStopin t

end
end

