-- ==== Sys2Proof/Laws/Memory.lean ====
section
/-! SUPPORT. The laws of the catalogue memory: every operation keeps the canonical form, and a read after a write. -/

namespace Sys2Proof.Machine

theorem nvWfFrom_cons {lo a : Nat} {b : Byte} {m : List Host.Cell} :
    nvWfFrom lo ((a, b) :: m) = true ↔ lo ≤ a ∧ b ≠ erasedByte ∧ nvWfFrom (a + 1) m = true := by
  simp [nvWfFrom, and_assoc]

theorem nvWfFrom_mono {lo lo' : Nat} {m : List Host.Cell} (h : nvWfFrom lo m = true) (le : lo' ≤ lo) :
    nvWfFrom lo' m = true := by
  cases m with
  | nil => rfl
  | cons c m =>
    rw [nvWfFrom_cons] at h ⊢
    exact ⟨le.trans h.1, h.2⟩

theorem nvCons_wf {lo a : Nat} {m : List Host.Cell} (b : Byte) (h : nvWfFrom (a + 1) m = true) (le : lo ≤ a) :
    nvWfFrom lo (nvCons a b m) = true := by
  unfold nvCons
  split
  · exact nvWfFrom_mono h (by omega)
  · exact nvWfFrom_cons.2 ⟨le, ‹_›, h⟩

theorem nvWrite_wfFrom {a : Nat} (b : Byte) (m : List Host.Cell) :
    ∀ lo, lo ≤ a → nvWfFrom lo m = true → nvWfFrom lo (nvWrite a b m) = true := by
  induction m with
  | nil => exact fun lo le _ => nvCons_wf b rfl le
  | cons c m ih =>
    obtain ⟨a', b'⟩ := c
    intro lo le h
    have hc := nvWfFrom_cons.1 h
    unfold nvWrite
    split
    · exact nvCons_wf b (nvWfFrom_cons.2 ⟨by omega, hc.2⟩) le
    · split
      · subst a; exact nvCons_wf b hc.2.2 le
      · exact nvWfFrom_cons.2 ⟨hc.1, hc.2.1, ih (a' + 1) (by omega) hc.2.2⟩

/-- A write keeps the canonical form. -/
theorem nvWrite_wf {a : Nat} {b : Byte} {m : List Host.Cell} (h : nvWf m = true) : nvWf (nvWrite a b m) = true :=
  nvWrite_wfFrom b m 0 (by omega) h

/-- Writing successive bytes keeps the canonical form. -/
theorem nvWriteList_wf (bs : List Byte) : ∀ (a : Nat) (m : List Host.Cell), nvWf m = true → nvWf (nvWriteList a bs m) = true := by
  induction bs with
  | nil => exact fun _ _ h => h
  | cons b bs ih => exact fun a m h => ih (a + 1) _ (nvWrite_wf h)

/-- Programming keeps the canonical form. -/
theorem nvProgramList_wf (bs : List Byte) :
    ∀ (a : Nat) (m : List Host.Cell), nvWf m = true → nvWf (nvProgramList a bs m) = true := by
  induction bs with
  | nil => exact fun _ _ h => h
  | cons b bs ih => exact fun a m h => ih (a + 1) _ (nvWrite_wf h)

/-- The memory after reset has the canonical form. -/
theorem reset_nv_wf : nvWf State.reset.cm.nv = true := rfl

theorem nvRead_nvCons {a x : Nat} {b : Byte} {m : List Host.Cell} (h : nvWfFrom (a + 1) m = true) :
    nvRead x (nvCons a b m) = if x = a then b else nvRead x m := by
  have low : ∀ (m : List Host.Cell) (lo : Nat), nvWfFrom lo m = true → ∀ y < lo, nvRead y m = erasedByte := by
    intro m
    induction m with
    | nil => exact fun _ _ _ _ => rfl
    | cons c m ih =>
      obtain ⟨a', b'⟩ := c
      intro lo h y hy
      have hc := nvWfFrom_cons.1 h
      rw [nvRead, if_neg (by omega)]
      exact ih (a' + 1) hc.2.2 y (by omega)
  unfold nvCons
  split
  · split
    · subst x; rw [low m _ h a (by omega)]; exact (‹b = erasedByte›).symm
    · rfl
  · rfl

/-- A read after a write: the byte written at its address, and every other byte as before. -/
theorem nvRead_nvWrite {a x : Nat} {b : Byte} {m : List Host.Cell} (h : nvWf m = true) :
    nvRead x (nvWrite a b m) = if x = a then b else nvRead x m := by
  suffices ∀ (m : List Host.Cell) (lo : Nat), nvWfFrom lo m = true →
      nvRead x (nvWrite a b m) = if x = a then b else nvRead x m from this m 0 h
  intro m
  induction m with
  | nil => exact fun _ _ => nvRead_nvCons rfl
  | cons c m ih =>
    obtain ⟨a', b'⟩ := c
    intro lo h
    have hc := nvWfFrom_cons.1 h
    unfold nvWrite
    split
    · exact nvRead_nvCons (nvWfFrom_cons.2 ⟨by omega, hc.2⟩)
    · split
      · subst a
        rw [nvRead_nvCons hc.2.2]
        split
        · rfl
        · rw [nvRead, if_neg ‹_›]
      · rw [nvRead, nvRead, ih _ hc.2.2]
        by_cases e : x = a'
        · subst x; simp [Ne.symm ‹¬a = a'›]
        · simp [e]

/-- Writing successive bytes leaves every byte outside them as it was. -/
theorem nvRead_nvWriteList_outside {x : Nat} (bs : List Byte) :
    ∀ (a : Nat) (m : List Host.Cell), nvWf m = true → (x < a ∨ a + bs.length ≤ x) →
      nvRead x (nvWriteList a bs m) = nvRead x m := by
  induction bs with
  | nil => exact fun _ _ _ _ => rfl
  | cons b bs ih =>
    intro a m h out
    rw [List.length_cons] at out
    rw [nvWriteList, ih (a + 1) _ (nvWrite_wf h) (by omega), nvRead_nvWrite h, if_neg (by omega)]

/-- Writing successive bytes puts the i-th byte at the i-th address. -/
theorem nvRead_nvWriteList_inside (bs : List Byte) :
    ∀ (a : Nat) (m : List Host.Cell), nvWf m = true → ∀ (i : Nat) (hi : i < bs.length),
      nvRead (a + i) (nvWriteList a bs m) = bs[i] := by
  induction bs with
  | nil => exact fun _ _ _ i hi => absurd hi (Nat.not_lt_zero i)
  | cons b bs ih =>
    intro a m h i hi
    cases i with
    | zero =>
      rw [nvWriteList, nvRead_nvWriteList_outside bs (a + 1) _ (nvWrite_wf h) (by omega), nvRead_nvWrite h]
      simp
    | succ i =>
      rw [nvWriteList, show a + (i + 1) = a + 1 + i by omega, ih (a + 1) _ (nvWrite_wf h) i (by simpa using hi)]
      simp

/-- Programming successive bytes leaves every byte outside them as it was. -/
theorem nvRead_nvProgramList_outside {x : Nat} (bs : List Byte) :
    ∀ (a : Nat) (m : List Host.Cell), nvWf m = true → (x < a ∨ a + bs.length ≤ x) →
      nvRead x (nvProgramList a bs m) = nvRead x m := by
  induction bs with
  | nil => exact fun _ _ _ _ => rfl
  | cons b bs ih =>
    intro a m h out
    rw [List.length_cons] at out
    rw [nvProgramList, ih (a + 1) _ (nvWrite_wf h) (by omega), nvRead_nvWrite h, if_neg (by omega)]

/-- Programming turns bits from 1 to 0 only (R158): each byte is left with the bits that were 1 and are 1 in what it was given. -/
theorem nvRead_nvProgramList_inside (bs : List Byte) :
    ∀ (a : Nat) (m : List Host.Cell), nvWf m = true → ∀ (i : Nat) (hi : i < bs.length),
      nvRead (a + i) (nvProgramList a bs m) = nvRead (a + i) m &&& bs[i] := by
  induction bs with
  | nil => exact fun _ _ _ i hi => absurd hi (Nat.not_lt_zero i)
  | cons b bs ih =>
    intro a m h i hi
    cases i with
    | zero =>
      rw [nvProgramList, nvRead_nvProgramList_outside bs (a + 1) _ (nvWrite_wf h) (by omega), nvRead_nvWrite h]
      simp
    | succ i =>
      rw [nvProgramList, show a + (i + 1) = a + 1 + i by omega, ih (a + 1) _ (nvWrite_wf h) i (by simpa using hi),
        nvRead_nvWrite h, if_neg (by omega)]
      simp

end Sys2Proof.Machine
end

