-- ==== Sys2Proof/Laws/Banks.lean ====
section
/-! SUPPORT. A bank that holds an image, its generation and the marker is VALID (R159, R160), and one bank's bytes are its own. -/

namespace Sys2Proof.Machine

/-- The memory with an image, a generation and the marker in a bank, as a successful commit leaves them there. -/
@[irreducible] def withImage (nv : List Host.Cell) (b : Bank) (cat : Catalogue) (g : Word) : List Host.Cell :=
  nvWriteList (nvAddress b 63 0) (wordBytes g ++ validMarker) (nvWriteList (nvAddress b 0 0) (imageBytes cat g) nv)

/-- Successive bytes read as a list, byte by byte. -/
theorem nvReadList_eq {a n : Nat} {m : List Host.Cell} {l : List Byte} (len : l.length = n)
    (h : ∀ (i : Nat) (hi : i < l.length), nvRead (a + i) m = l[i]) : nvReadList a n m = l := by
  subst len
  apply List.ext_getElem
  · simp [nvReadList]
  · intro i h1 h2
    simp [nvReadList, h i h2]

/-- The four bytes of a value give the value back. -/
theorem wordOf_wordBytes (w : Word) : wordOf (wordByte w 0) (wordByte w 1) (wordByte w 2) (wordByte w 3) = w := by
  apply BitVec.eq_of_getLsbD_eq
  intro i hi
  have parts : ∀ k, k ≤ i → k + (i - k) = i := fun k h => by omega
  simp only [wordOf, wordByte, BitVec.getLsbD_append, BitVec.truncate_eq_setWidth, BitVec.getLsbD_setWidth,
    BitVec.getLsbD_ushiftRight]
  by_cases h16 : i < 16
  · by_cases h8 : i < 8
    · simp [h16, h8]
    · have : i - 8 < 8 := by omega
      simp [h16, h8, this, parts 8 (by omega)]
  · by_cases h24 : i - 16 < 8
    · simp [h16, h24, parts 16 (by omega)]
    · have : i - 16 - 8 < 8 := by omega
      have e : 24 + (i - 16 - 8) = i := by omega
      simp [h16, h24, this, e]

/-- The image area is 63 pages of 32 bytes. -/
theorem imageBytes_length {cat : Catalogue} (h : (catalogueBytes cat).length = 1194) (g : Word) :
    (imageBytes cat g).length = 2016 := by
  simp only [imageBytes, List.length_append, List.length_replicate, h, wordBytes, List.length_cons, List.length_nil]

/-- Writing an image keeps the canonical form. -/
theorem withImage_wf {nv : List Host.Cell} (h : nvWf nv = true) (b : Bank) (cat : Catalogue) (g : Word) :
    nvWf (withImage nv b cat g) = true := by
  unfold withImage
  exact nvWriteList_wf _ _ _ (nvWriteList_wf _ _ _ h)

/-- Outside the bank, writing an image changes no byte. -/
theorem withImage_outside {nv : List Host.Cell} (h : nvWf nv = true) {b : Bank} {cat : Catalogue} {g : Word}
    (len : (catalogueBytes cat).length = 1194) {a : Nat} (out : a < b.val * 2048 ∨ b.val * 2048 + 2048 ≤ a) :
    nvRead a (withImage nv b cat g) = nvRead a nv := by
  unfold withImage
  rw [nvRead_nvWriteList_outside _ _ _ (nvWriteList_wf _ _ _ h), nvRead_nvWriteList_outside _ _ _ h]
  · rw [imageBytes_length len]
    simp only [nvAddress]
    generalize b.val * 2048 = base at out ⊢
    omega
  · have eight : (wordBytes g ++ validMarker).length = 8 := rfl
    rw [eight]
    simp only [nvAddress]
    generalize b.val * 2048 = base at out ⊢
    omega

/-- A byte of the image area of a bank with an image. -/
theorem withImage_image {nv : List Host.Cell} (h : nvWf nv = true) (b : Bank) {cat : Catalogue} (g : Word)
    (len : (catalogueBytes cat).length = 1194) (i : Nat) (hi : i < 2016) :
    nvRead (nvAddress b 0 0 + i) (withImage nv b cat g) = (imageBytes cat g)[i]'(by rw [imageBytes_length len]; exact hi) := by
  unfold withImage
  rw [nvRead_nvWriteList_outside _ _ _ (nvWriteList_wf _ _ _ h)]
  · exact nvRead_nvWriteList_inside _ _ _ h i _
  · simp only [nvAddress]; omega

/-- A byte of generation and marker of a bank with an image. -/
theorem withImage_marker {nv : List Host.Cell} (h : nvWf nv = true) (b : Bank) (cat : Catalogue) (g : Word) (i : Nat) (hi : i < 8) :
    nvRead (nvAddress b 63 i) (withImage nv b cat g) = (wordBytes g ++ validMarker)[i]'(by simpa [wordBytes, validMarker]) := by
  unfold withImage
  exact nvRead_nvWriteList_inside _ _ _ (nvWriteList_wf _ _ _ h) i _

/-- A bank with the image of a catalogue that reads back, under a generation that may be written, is VALID. -/
theorem classify_withImage {nv : List Host.Cell} (h : nvWf nv = true) (b : Bank) {cat : Catalogue} {g : Word}
    (len : (catalogueBytes cat).length = 1194) (parse : parseCatalogue (catalogueBytes cat) = some cat) (g0 : g ≠ 0#32)
    (g1 : g ≠ 0xFFFFFFFF#32) : classifyBank (withImage nv b cat g) b = .valid g cat := by
  have marker : markerBytes (withImage nv b cat g) b = validMarker := by
    refine nvReadList_eq rfl fun i hi => ?_
    have := withImage_marker h b cat g (4 + i) (by simp [validMarker] at hi; omega)
    rw [show nvAddress b 63 4 + i = nvAddress b 63 (4 + i) from by simp only [nvAddress]; omega, this]
    rw [List.getElem_append_right (by simp [wordBytes])]
    simp [wordBytes]
  have gen : storedGeneration (withImage nv b cat g) b = g := by
    unfold storedGeneration
    rw [withImage_marker h b cat g 0 (by omega), withImage_marker h b cat g 1 (by omega), withImage_marker h b cat g 2 (by omega),
      withImage_marker h b cat g 3 (by omega)]
    exact wordOf_wordBytes g
  have stored : storedCatalogueBytes (withImage nv b cat g) b = catalogueBytes cat := by
    refine nvReadList_eq len fun i hi => ?_
    rw [withImage_image h b g len i (by omega)]
    simp only [imageBytes]
    rw [List.getElem_append_left (by rw [List.length_append, List.length_replicate]; omega), List.getElem_append_left hi]
  have crcByte : ∀ i, (hi : i < 4) → nvRead (nvAddress b 62 (28 + i)) (withImage nv b cat g) =
      (wordBytes (imageCrc (catalogueBytes cat) g))[i]'(by simpa [wordBytes]) := by
    intro i hi
    have := withImage_image h b g len (2012 + i) (by omega)
    rw [show nvAddress b 62 (28 + i) = nvAddress b 0 0 + (2012 + i) from by simp only [nvAddress]; omega, this]
    simp only [imageBytes]
    have front : (catalogueBytes cat ++ List.replicate 818 0xFF#8).length = 2012 := by
      rw [List.length_append, List.length_replicate, len]
    rw [List.getElem_append_right (by omega)]
    simp only [front, Nat.add_sub_cancel_left]
  have crc : storedCrc (withImage nv b cat g) b = imageCrc (catalogueBytes cat) g := by
    unfold storedCrc
    rw [crcByte 0 (by omega), crcByte 1 (by omega), crcByte 2 (by omega), crcByte 3 (by omega)]
    exact wordOf_wordBytes _
  unfold classifyBank
  simp [marker, gen, g0, g1, stored, crc, parse]

/-- The condition of a bank rests on its own bytes alone. -/
theorem classify_congr {nv nv' : List Host.Cell} {b : Bank}
    (h : ∀ a, b.val * 2048 ≤ a → a < b.val * 2048 + 2048 → nvRead a nv' = nvRead a nv) : classifyBank nv' b = classifyBank nv b := by
  have one : ∀ page i, page < 64 → i < 32 → nvRead (nvAddress b page i) nv' = nvRead (nvAddress b page i) nv := by
    intro page i hp hi
    exact h _ (by simp only [nvAddress]; omega) (by simp only [nvAddress]; omega)
  have marker : markerBytes nv' b = markerBytes nv b := by
    simp only [markerBytes, nvReadList]
    refine List.map_congr_left fun i hi => h _ ?_ ?_ <;> simp only [nvAddress] <;> have := List.mem_range.1 hi <;> omega
  have gen : storedGeneration nv' b = storedGeneration nv b := by
    simp only [storedGeneration, one 63 _ (by omega) (by omega : (0 : Nat) < 32), one 63 _ (by omega) (by omega : (1 : Nat) < 32),
      one 63 _ (by omega) (by omega : (2 : Nat) < 32), one 63 _ (by omega) (by omega : (3 : Nat) < 32)]
  have crc : storedCrc nv' b = storedCrc nv b := by
    simp only [storedCrc, one 62 _ (by omega) (by omega : (28 : Nat) < 32), one 62 _ (by omega) (by omega : (29 : Nat) < 32),
      one 62 _ (by omega) (by omega : (30 : Nat) < 32), one 62 _ (by omega) (by omega : (31 : Nat) < 32)]
  have bytes : storedCatalogueBytes nv' b = storedCatalogueBytes nv b := by
    simp only [storedCatalogueBytes, nvReadList]
    refine List.map_congr_left fun i hi => h _ ?_ ?_ <;> simp only [nvAddress] <;> have := List.mem_range.1 hi <;> omega
  unfold classifyBank
  rw [marker, gen, crc, bytes]

/-- Writing an image to one bank leaves the condition of the other as it was. -/
theorem classify_withImage_other {nv : List Host.Cell} (h : nvWf nv = true) {b d : Bank} {cat : Catalogue} {g : Word}
    (len : (catalogueBytes cat).length = 1194) (ne : d ≠ b) : classifyBank (withImage nv b cat g) d = classifyBank nv d := by
  refine classify_congr fun a lo hi => withImage_outside h len ?_
  have : d.val ≠ b.val := fun e => ne (Fin.ext e)
  omega

end Sys2Proof.Machine
end

