-- ==== Sys2Proof/Laws/State.lean ====
section
/-! SUPPORT. The small lemmas of the state updates: for each update one lemma per block of State, each true by definition. Proofs
about a step cite them and unfold no record update. -/

namespace Sys2Proof.Machine

variable (s : State)

/-! ### `postAttention` -/

@[simp] theorem postAttention_mc (what : Attention) : (s.postAttention what).mc = s.mc := rfl
@[simp] theorem postAttention_cu (what : Attention) : (s.postAttention what).cu = s.cu := rfl
@[simp] theorem postAttention_cm (what : Attention) : (s.postAttention what).cm = s.cm := rfl
@[simp] theorem postAttention_ge (what : Attention) : (s.postAttention what).ge = s.ge := rfl
@[simp] theorem postAttention_lt (what : Attention) : (s.postAttention what).lt = s.lt := rfl
@[simp] theorem postAttention_ct (what : Attention) : (s.postAttention what).ct = s.ct := rfl
@[simp] theorem postAttention_attn (what : Attention) : (s.postAttention what).attn = s.attn.post what s.lt.clock := rfl
@[simp] theorem postAttention_si (what : Attention) : (s.postAttention what).si = s.si := rfl
@[simp] theorem postAttention_li (what : Attention) : (s.postAttention what).li = s.li := rfl
@[simp] theorem postAttention_es (what : Attention) : (s.postAttention what).es = s.es := rfl
@[simp] theorem postAttention_freeCount (what : Attention) : (s.postAttention what).freeCount = s.freeCount := rfl
@[simp] theorem postAttention_pending (what : Attention) : (s.postAttention what).pending = s.pending := rfl

/-! ### `setClient` -/

@[simp] theorem setClient_mc (c : Slot) (r : ClientRuntime) : (s.setClient c r).mc = s.mc := rfl
@[simp] theorem setClient_cu (c : Slot) (r : ClientRuntime) : (s.setClient c r).cu = s.cu := rfl
@[simp] theorem setClient_cm (c : Slot) (r : ClientRuntime) : (s.setClient c r).cm = s.cm := rfl
@[simp] theorem setClient_ge (c : Slot) (r : ClientRuntime) : (s.setClient c r).ge = s.ge := rfl
@[simp] theorem setClient_lt (c : Slot) (r : ClientRuntime) : (s.setClient c r).lt = s.lt := rfl
@[simp] theorem setClient_ct (c : Slot) (r : ClientRuntime) : (s.setClient c r).ct = s.ct.set c r := rfl
@[simp] theorem setClient_attn (c : Slot) (r : ClientRuntime) : (s.setClient c r).attn = s.attn := rfl
@[simp] theorem setClient_si (c : Slot) (r : ClientRuntime) : (s.setClient c r).si = s.si := rfl
@[simp] theorem setClient_li (c : Slot) (r : ClientRuntime) : (s.setClient c r).li = s.li := rfl
@[simp] theorem setClient_es (c : Slot) (r : ClientRuntime) : (s.setClient c r).es = s.es := rfl
@[simp] theorem setClient_freeCount (c : Slot) (r : ClientRuntime) : (s.setClient c r).freeCount = s.freeCount := rfl
@[simp] theorem setClient_pending (c : Slot) (r : ClientRuntime) : (s.setClient c r).pending = s.pending := rfl

/-! ### `enqueueExpiry` -/

@[simp] theorem enqueueExpiry_mc (b : BundleId) : (s.enqueueExpiry b).mc = s.mc := rfl
@[simp] theorem enqueueExpiry_cu (b : BundleId) : (s.enqueueExpiry b).cu = s.cu := rfl
@[simp] theorem enqueueExpiry_cm (b : BundleId) : (s.enqueueExpiry b).cm = s.cm := rfl
@[simp] theorem enqueueExpiry_ge (b : BundleId) : (s.enqueueExpiry b).ge = s.ge := rfl
@[simp] theorem enqueueExpiry_lt (b : BundleId) : (s.enqueueExpiry b).lt = { s.lt with queue := insertByDeadline s.deadlineOf b s.lt.queue } := rfl
@[simp] theorem enqueueExpiry_ct (b : BundleId) : (s.enqueueExpiry b).ct = s.ct := rfl
@[simp] theorem enqueueExpiry_attn (b : BundleId) : (s.enqueueExpiry b).attn = s.attn := rfl
@[simp] theorem enqueueExpiry_si (b : BundleId) : (s.enqueueExpiry b).si = s.si := rfl
@[simp] theorem enqueueExpiry_li (b : BundleId) : (s.enqueueExpiry b).li = s.li := rfl
@[simp] theorem enqueueExpiry_es (b : BundleId) : (s.enqueueExpiry b).es = s.es := rfl
@[simp] theorem enqueueExpiry_freeCount (b : BundleId) : (s.enqueueExpiry b).freeCount = s.freeCount := rfl
@[simp] theorem enqueueExpiry_pending (b : BundleId) : (s.enqueueExpiry b).pending = s.pending := rfl

/-! ### `dequeueExpiry` -/

@[simp] theorem dequeueExpiry_mc (b : BundleId) : (s.dequeueExpiry b).mc = s.mc := rfl
@[simp] theorem dequeueExpiry_cu (b : BundleId) : (s.dequeueExpiry b).cu = s.cu := rfl
@[simp] theorem dequeueExpiry_cm (b : BundleId) : (s.dequeueExpiry b).cm = s.cm := rfl
@[simp] theorem dequeueExpiry_ge (b : BundleId) : (s.dequeueExpiry b).ge = s.ge := rfl
@[simp] theorem dequeueExpiry_lt (b : BundleId) : (s.dequeueExpiry b).lt = { s.lt with queue := s.lt.queue.erase b } := rfl
@[simp] theorem dequeueExpiry_ct (b : BundleId) : (s.dequeueExpiry b).ct = s.ct := rfl
@[simp] theorem dequeueExpiry_attn (b : BundleId) : (s.dequeueExpiry b).attn = s.attn := rfl
@[simp] theorem dequeueExpiry_si (b : BundleId) : (s.dequeueExpiry b).si = s.si := rfl
@[simp] theorem dequeueExpiry_li (b : BundleId) : (s.dequeueExpiry b).li = s.li := rfl
@[simp] theorem dequeueExpiry_es (b : BundleId) : (s.dequeueExpiry b).es = s.es := rfl
@[simp] theorem dequeueExpiry_freeCount (b : BundleId) : (s.dequeueExpiry b).freeCount = s.freeCount := rfl
@[simp] theorem dequeueExpiry_pending (b : BundleId) : (s.dequeueExpiry b).pending = s.pending := rfl

/-! ### `setBundle` -/

@[simp] theorem setBundle_mc (b : BundleId) (x : Option Bundle) : (s.setBundle b x).mc = s.mc := rfl
@[simp] theorem setBundle_cu (b : BundleId) (x : Option Bundle) : (s.setBundle b x).cu = s.cu := rfl
@[simp] theorem setBundle_cm (b : BundleId) (x : Option Bundle) : (s.setBundle b x).cm = s.cm := rfl
@[simp] theorem setBundle_ge (b : BundleId) (x : Option Bundle) : (s.setBundle b x).ge = { s.ge with bundles := s.ge.bundles.set b x } := rfl
@[simp] theorem setBundle_lt (b : BundleId) (x : Option Bundle) : (s.setBundle b x).lt = s.lt := rfl
@[simp] theorem setBundle_ct (b : BundleId) (x : Option Bundle) : (s.setBundle b x).ct = s.ct := rfl
@[simp] theorem setBundle_attn (b : BundleId) (x : Option Bundle) : (s.setBundle b x).attn = s.attn := rfl
@[simp] theorem setBundle_si (b : BundleId) (x : Option Bundle) : (s.setBundle b x).si = s.si := rfl
@[simp] theorem setBundle_li (b : BundleId) (x : Option Bundle) : (s.setBundle b x).li = s.li := rfl
@[simp] theorem setBundle_es (b : BundleId) (x : Option Bundle) : (s.setBundle b x).es = s.es := rfl
@[simp] theorem setBundle_freeCount (b : BundleId) (x : Option Bundle) : (s.setBundle b x).freeCount = s.freeCount := rfl
@[simp] theorem setBundle_pending (b : BundleId) (x : Option Bundle) : (s.setBundle b x).pending = s.pending := rfl

/-! ### `setZone` -/

@[simp] theorem setZone_mc (z : ZoneId) (r : ZoneState) : (s.setZone z r).mc = s.mc := rfl
@[simp] theorem setZone_cu (z : ZoneId) (r : ZoneState) : (s.setZone z r).cu = s.cu := rfl
@[simp] theorem setZone_cm (z : ZoneId) (r : ZoneState) : (s.setZone z r).cm = s.cm := rfl
@[simp] theorem setZone_ge (z : ZoneId) (r : ZoneState) : (s.setZone z r).ge = { s.ge with zones := s.ge.zones.set z r } := rfl
@[simp] theorem setZone_lt (z : ZoneId) (r : ZoneState) : (s.setZone z r).lt = s.lt := rfl
@[simp] theorem setZone_ct (z : ZoneId) (r : ZoneState) : (s.setZone z r).ct = s.ct := rfl
@[simp] theorem setZone_attn (z : ZoneId) (r : ZoneState) : (s.setZone z r).attn = s.attn := rfl
@[simp] theorem setZone_si (z : ZoneId) (r : ZoneState) : (s.setZone z r).si = s.si := rfl
@[simp] theorem setZone_li (z : ZoneId) (r : ZoneState) : (s.setZone z r).li = s.li := rfl
@[simp] theorem setZone_es (z : ZoneId) (r : ZoneState) : (s.setZone z r).es = s.es := rfl
@[simp] theorem setZone_freeCount (z : ZoneId) (r : ZoneState) : (s.setZone z r).freeCount = s.freeCount := rfl
@[simp] theorem setZone_pending (z : ZoneId) (r : ZoneState) : (s.setZone z r).pending = s.pending := rfl

/-! ### `setEntries` -/

@[simp] theorem setEntries_mc (l : List Entry) : (s.setEntries l).mc = s.mc := rfl
@[simp] theorem setEntries_cu (l : List Entry) : (s.setEntries l).cu = s.cu := rfl
@[simp] theorem setEntries_cm (l : List Entry) : (s.setEntries l).cm = s.cm := rfl
@[simp] theorem setEntries_ge (l : List Entry) : (s.setEntries l).ge = { s.ge with entries := l } := rfl
@[simp] theorem setEntries_lt (l : List Entry) : (s.setEntries l).lt = s.lt := rfl
@[simp] theorem setEntries_ct (l : List Entry) : (s.setEntries l).ct = s.ct := rfl
@[simp] theorem setEntries_attn (l : List Entry) : (s.setEntries l).attn = s.attn := rfl
@[simp] theorem setEntries_si (l : List Entry) : (s.setEntries l).si = s.si := rfl
@[simp] theorem setEntries_li (l : List Entry) : (s.setEntries l).li = s.li := rfl
@[simp] theorem setEntries_es (l : List Entry) : (s.setEntries l).es = s.es := rfl
@[simp] theorem setEntries_freeCount (l : List Entry) : (s.setEntries l).freeCount = s.freeCount := rfl
@[simp] theorem setEntries_pending (l : List Entry) : (s.setEntries l).pending = s.pending := rfl

/-! ### `setReceiver` -/

@[simp] theorem setReceiver_mc (r : Receiver) : (s.setReceiver r).mc = s.mc := rfl
@[simp] theorem setReceiver_cu (r : Receiver) : (s.setReceiver r).cu = s.cu := rfl
@[simp] theorem setReceiver_cm (r : Receiver) : (s.setReceiver r).cm = s.cm := rfl
@[simp] theorem setReceiver_ge (r : Receiver) : (s.setReceiver r).ge = s.ge := rfl
@[simp] theorem setReceiver_lt (r : Receiver) : (s.setReceiver r).lt = s.lt := rfl
@[simp] theorem setReceiver_ct (r : Receiver) : (s.setReceiver r).ct = s.ct := rfl
@[simp] theorem setReceiver_attn (r : Receiver) : (s.setReceiver r).attn = s.attn := rfl
@[simp] theorem setReceiver_si (r : Receiver) : (s.setReceiver r).si = s.si := rfl
@[simp] theorem setReceiver_li (r : Receiver) : (s.setReceiver r).li = { s.li with receiver := r } := rfl
@[simp] theorem setReceiver_es (r : Receiver) : (s.setReceiver r).es = s.es := rfl
@[simp] theorem setReceiver_freeCount (r : Receiver) : (s.setReceiver r).freeCount = s.freeCount := rfl
@[simp] theorem setReceiver_pending (r : Receiver) : (s.setReceiver r).pending = s.pending := rfl

/-! ### `setExchange` -/

@[simp] theorem setExchange_mc (e : ExchangeState) : (s.setExchange e).mc = s.mc := rfl
@[simp] theorem setExchange_cu (e : ExchangeState) : (s.setExchange e).cu = s.cu := rfl
@[simp] theorem setExchange_cm (e : ExchangeState) : (s.setExchange e).cm = s.cm := rfl
@[simp] theorem setExchange_ge (e : ExchangeState) : (s.setExchange e).ge = s.ge := rfl
@[simp] theorem setExchange_lt (e : ExchangeState) : (s.setExchange e).lt = s.lt := rfl
@[simp] theorem setExchange_ct (e : ExchangeState) : (s.setExchange e).ct = s.ct := rfl
@[simp] theorem setExchange_attn (e : ExchangeState) : (s.setExchange e).attn = s.attn := rfl
@[simp] theorem setExchange_si (e : ExchangeState) : (s.setExchange e).si = s.si := rfl
@[simp] theorem setExchange_li (e : ExchangeState) : (s.setExchange e).li = s.li := rfl
@[simp] theorem setExchange_es (e : ExchangeState) : (s.setExchange e).es = { s.es with exchange := e } := rfl
@[simp] theorem setExchange_freeCount (e : ExchangeState) : (s.setExchange e).freeCount = s.freeCount := rfl
@[simp] theorem setExchange_pending (e : ExchangeState) : (s.setExchange e).pending = s.pending := rfl

/-! ### `setPort` -/

@[simp] theorem setPort_mc (p : Port) : (s.setPort p).mc = s.mc := rfl
@[simp] theorem setPort_cu (p : Port) : (s.setPort p).cu = s.cu := rfl
@[simp] theorem setPort_cm (p : Port) : (s.setPort p).cm = s.cm := rfl
@[simp] theorem setPort_ge (p : Port) : (s.setPort p).ge = s.ge := rfl
@[simp] theorem setPort_lt (p : Port) : (s.setPort p).lt = s.lt := rfl
@[simp] theorem setPort_ct (p : Port) : (s.setPort p).ct = s.ct := rfl
@[simp] theorem setPort_attn (p : Port) : (s.setPort p).attn = s.attn := rfl
@[simp] theorem setPort_si (p : Port) : (s.setPort p).si = { s.si with port := p } := rfl
@[simp] theorem setPort_li (p : Port) : (s.setPort p).li = s.li := rfl
@[simp] theorem setPort_es (p : Port) : (s.setPort p).es = s.es := rfl
@[simp] theorem setPort_freeCount (p : Port) : (s.setPort p).freeCount = s.freeCount := rfl
@[simp] theorem setPort_pending (p : Port) : (s.setPort p).pending = s.pending := rfl

/-! ### `setNv` -/

@[simp] theorem setNv_mc (nv : List Host.Cell) : (s.setNv nv).mc = s.mc := rfl
@[simp] theorem setNv_cu (nv : List Host.Cell) : (s.setNv nv).cu = s.cu := rfl
@[simp] theorem setNv_cm (nv : List Host.Cell) : (s.setNv nv).cm = { s.cm with nv := nv } := rfl
@[simp] theorem setNv_ge (nv : List Host.Cell) : (s.setNv nv).ge = s.ge := rfl
@[simp] theorem setNv_lt (nv : List Host.Cell) : (s.setNv nv).lt = s.lt := rfl
@[simp] theorem setNv_ct (nv : List Host.Cell) : (s.setNv nv).ct = s.ct := rfl
@[simp] theorem setNv_attn (nv : List Host.Cell) : (s.setNv nv).attn = s.attn := rfl
@[simp] theorem setNv_si (nv : List Host.Cell) : (s.setNv nv).si = s.si := rfl
@[simp] theorem setNv_li (nv : List Host.Cell) : (s.setNv nv).li = s.li := rfl
@[simp] theorem setNv_es (nv : List Host.Cell) : (s.setNv nv).es = s.es := rfl
@[simp] theorem setNv_freeCount (nv : List Host.Cell) : (s.setNv nv).freeCount = s.freeCount := rfl
@[simp] theorem setNv_pending (nv : List Host.Cell) : (s.setNv nv).pending = s.pending := rfl

/-! ### Records of the tables after an update -/

@[simp] theorem setClient_get_same (c : Slot) (r : ClientRuntime) : (s.setClient c r).ct[c] = r := by
  simp [State.setClient]

theorem setClient_get_other (c d : Slot) (r : ClientRuntime) (h : d ≠ c) : (s.setClient c r).ct[d] = s.ct[d] := by
  simp only [State.setClient, Fin.getElem_fin]
  exact Vector.getElem_set_ne _ _ fun e => h (Fin.ext e.symm)

@[simp] theorem setBundle_get_same (b : BundleId) (x : Option Bundle) : (s.setBundle b x).ge.bundles[b] = x := by
  simp [State.setBundle]

theorem setBundle_get_other (b d : BundleId) (x : Option Bundle) (h : d ≠ b) :
    (s.setBundle b x).ge.bundles[d] = s.ge.bundles[d] := by
  simp only [State.setBundle, Fin.getElem_fin]
  exact Vector.getElem_set_ne _ _ fun e => h (Fin.ext e.symm)

@[simp] theorem setZone_get_same (z : ZoneId) (r : ZoneState) : (s.setZone z r).ge.zones[z] = r := by
  simp [State.setZone]

theorem setZone_get_other (z d : ZoneId) (r : ZoneState) (h : d ≠ z) :
    (s.setZone z r).ge.zones[d] = s.ge.zones[d] := by
  simp only [State.setZone, Fin.getElem_fin]
  exact Vector.getElem_set_ne _ _ fun e => h (Fin.ext e.symm)

end Sys2Proof.Machine
end

