-- ==== Sys2Proof/Laws/Tables.lean ====
section
/-! SUPPORT. What the operations of the Grant Engine, the Lease Timer, the Client Table and the Attention Set leave alone: they act
on the four tables, the expiry queue, the client records and the attentions, and on nothing else. -/

namespace Sys2Proof.Machine

/-- `t` differs from `s` in the Grant Engine's tables, the expiry queue, the client records and the Attention Set at most. -/
structure TablesOnly (s t : State) : Prop where
  mc : t.mc = s.mc
  cu : t.cu = s.cu
  cm : t.cm = s.cm
  si : t.si = s.si
  li : t.li = s.li
  es : t.es = s.es
  lt : t.lt = { s.lt with queue := t.lt.queue }
  freeCount : t.freeCount = s.freeCount
  pending : t.pending = s.pending

namespace TablesOnly

theorem refl (s : State) : TablesOnly s s := ⟨rfl, rfl, rfl, rfl, rfl, rfl, rfl, rfl, rfl⟩

theorem trans {s t u : State} (h : TablesOnly s t) (k : TablesOnly t u) : TablesOnly s u :=
  ⟨k.mc.trans h.mc, k.cu.trans h.cu, k.cm.trans h.cm, k.si.trans h.si, k.li.trans h.li, k.es.trans h.es,
    by rw [k.lt, h.lt], k.freeCount.trans h.freeCount, k.pending.trans h.pending⟩

/-- An operation repeated over a list. -/
theorem foldl {α : Type} {f : State → α → State} (h : ∀ s a, TablesOnly s (f s a)) (l : List α) :
    ∀ s, TablesOnly s (l.foldl f s) := by
  induction l with
  | nil => exact refl
  | cons a l ih => exact fun s => (h s a).trans (ih _)

theorem clock {s t : State} (h : TablesOnly s t) : t.lt.clock = s.lt.clock := by rw [h.lt]

theorem inService {s t : State} (h : TablesOnly s t) : t.inService = s.inService := by
  simp [State.inService, h.mc]

end TablesOnly

variable (s : State)

theorem postAttention_tables (what : Attention) : TablesOnly s (s.postAttention what) :=
  ⟨rfl, rfl, rfl, rfl, rfl, rfl, rfl, rfl, rfl⟩

theorem setClient_tables (c : Slot) (r : ClientRuntime) : TablesOnly s (s.setClient c r) :=
  ⟨rfl, rfl, rfl, rfl, rfl, rfl, rfl, rfl, rfl⟩

theorem enqueueExpiry_tables (b : BundleId) : TablesOnly s (s.enqueueExpiry b) :=
  ⟨rfl, rfl, rfl, rfl, rfl, rfl, rfl, rfl, rfl⟩

theorem dequeueExpiry_tables (b : BundleId) : TablesOnly s (s.dequeueExpiry b) :=
  ⟨rfl, rfl, rfl, rfl, rfl, rfl, rfl, rfl, rfl⟩

theorem setBundle_tables (b : BundleId) (x : Option Bundle) : TablesOnly s (s.setBundle b x) :=
  ⟨rfl, rfl, rfl, rfl, rfl, rfl, rfl, rfl, rfl⟩

theorem setZone_tables (z : ZoneId) (r : ZoneState) : TablesOnly s (s.setZone z r) :=
  ⟨rfl, rfl, rfl, rfl, rfl, rfl, rfl, rfl, rfl⟩

theorem setEntries_tables (l : List Entry) : TablesOnly s (s.setEntries l) :=
  ⟨rfl, rfl, rfl, rfl, rfl, rfl, rfl, rfl, rfl⟩

theorem enqueueEntry_tables (c : Slot) (tag : Byte) (term : Half) (zones : List ZoneId) :
    TablesOnly s (s.enqueueEntry c tag term zones) := ⟨rfl, rfl, rfl, rfl, rfl, rfl, rfl, rfl, rfl⟩

theorem postNotice_tables (c : Slot) (body : NoticeBody) : TablesOnly s (s.postNotice c body) := by
  unfold State.postNotice
  split
  · split
    · exact setClient_tables _ _ _
    · exact (setClient_tables _ _ _).trans (postAttention_tables _ _)
  · exact .refl s

theorem removeBundle_tables (b : BundleId) : TablesOnly s (s.removeBundle b) :=
  (setBundle_tables s b none).trans (dequeueExpiry_tables _ b)

theorem reschedule_tables (b : BundleId) (x : Bundle) : TablesOnly s (s.reschedule b x) :=
  ((dequeueExpiry_tables s b).trans (setBundle_tables _ b _)).trans (enqueueExpiry_tables _ b)

theorem disposeZone_tables (b : BundleId) (d : ExpiryPolicy) (z : ZoneId) : TablesOnly s (s.disposeZone b d z) := by
  cases d with
  | free => exact setZone_tables s z _
  | fence =>
    simp only [State.disposeZone, State.fenceUnit]
    split
    · exact (setZone_tables s z _).trans (postAttention_tables _ _)
    · exact setZone_tables s z _

theorem endBundle_tables (b : BundleId) (d : ZoneId → ExpiryPolicy) : TablesOnly s (s.endBundle b d) :=
  (TablesOnly.foldl (fun t z => disposeZone_tables t b (d z) z) _ s).trans (removeBundle_tables _ b)

theorem endBundles_tables (bs : List BundleId) (d : ZoneId → ExpiryPolicy) : TablesOnly s (s.endBundles bs d) :=
  TablesOnly.foldl (fun t b => endBundle_tables t b d) bs s

theorem createBundle_tables (b : BundleId) (c : Slot) (tag : Byte) (term : Half) (zones : List ZoneId) :
    TablesOnly s (s.createBundle b c tag term zones) := by
  have h1 : TablesOnly s { s with ge := { s.ge with tokenCounter := s.nextToken + 1#16 } } :=
    ⟨rfl, rfl, rfl, rfl, rfl, rfl, rfl, rfl, rfl⟩
  exact ((h1.trans (setBundle_tables _ b _)).trans (TablesOnly.foldl (fun t z => setZone_tables t z _) zones _)).trans
    (enqueueExpiry_tables _ b)

theorem giveUpZones_tables (b : BundleId) (x : Bundle) (given : List ZoneId) :
    TablesOnly s (s.giveUpZones b x given) := by
  have h1 := TablesOnly.foldl (fun t z => setZone_tables t z { t.ge.zones[z] with holders := t.ge.zones[z].holders.erase b })
    given s
  simp only [State.giveUpZones]
  split
  · exact h1.trans (removeBundle_tables _ b)
  · exact h1.trans (setBundle_tables _ b _)

theorem releaseBundle_tables (b : BundleId) : TablesOnly s (s.releaseBundle b) := by
  unfold State.releaseBundle
  split
  · exact giveUpZones_tables s b _ _
  · exact .refl s

theorem releaseBundles_tables (bs : List BundleId) : TablesOnly s (s.releaseBundles bs) :=
  TablesOnly.foldl releaseBundle_tables bs s

theorem removeEntry_tables (c : Slot) : TablesOnly s (s.removeEntry c) := setEntries_tables s _

theorem grantEntry_tables (b : BundleId) (e : Entry) : TablesOnly s (s.grantEntry b e) :=
  ((createBundle_tables s b _ _ _ _).trans (setEntries_tables _ _)).trans (postNotice_tables _ _ _)

theorem scanWalk_tables (l : List Entry) : ∀ reserved s, TablesOnly s (scanWalk l reserved s) := by
  induction l with
  | nil => exact fun _ s => .refl s
  | cons e l ih =>
    intro reserved s
    unfold scanWalk
    split
    · exact .refl s
    · split
      · exact (grantEntry_tables s _ e).trans (ih _ _)
      · exact ih _ _

theorem requestScan_tables : TablesOnly s s.requestScan := by
  unfold State.requestScan
  split
  · exact scanWalk_tables _ _ s
  · exact .refl s

theorem silenceWithdrawal_tables (c : Slot) : TablesOnly s (s.silenceWithdrawal c) := by
  unfold State.silenceWithdrawal
  split
  · exact (removeEntry_tables s c).trans (postNotice_tables _ _ _)
  · exact .refl s

theorem cutBundle_tables (b : BundleId) : TablesOnly s (s.cutBundle b) := by
  unfold State.cutBundle
  split
  · dsimp only
    split
    · exact reschedule_tables s b _
    · exact .refl s
  · exact .refl s

theorem silenceCut_tables (c : Slot) : TablesOnly s (s.silenceCut c) := TablesOnly.foldl cutBundle_tables _ s

theorem fallSilent_tables (c : Slot) : TablesOnly s (s.fallSilent c) := by
  have h := (((setClient_tables s c { s.ct[c] with state := .silent }).trans (silenceWithdrawal_tables _ c)).trans
    (silenceCut_tables _ c)).trans (postAttention_tables _ (.silent c))
  simp only [State.fallSilent]
  split
  · exact h.trans (requestScan_tables _)
  · exact h

theorem miss_tables (c : Slot) : TablesOnly s (s.miss c) := by
  unfold State.miss
  split
  · dsimp only
    split
    · exact (setClient_tables s c _).trans (fallSilent_tables _ c)
    · exact setClient_tables s c _
  · exact .refl s

theorem returnClient_tables (c : Slot) : TablesOnly s (s.returnClient c) := by
  unfold State.returnClient
  split
  · exact (setClient_tables s c _).trans (postAttention_tables _ _)
  · exact .refl s

theorem acceptReply_tables (c : Slot) (ack : Option Byte) : TablesOnly s (s.acceptReply c ack) := by
  have h := (returnClient_tables s c).trans (setClient_tables (s.returnClient c) c { (s.returnClient c).ct[c] with misses := 0 })
  simp only [State.acceptReply, State.applyAck]
  split
  · exact h.trans (setClient_tables _ c _)
  · exact h

/-! ### Requests -/

theorem acquire_tables (c : Slot) (tag : Byte) (wait : Bool) (term : Half) (zones : List Byte) :
    TablesOnly s (s.acquire c tag wait term zones).1 := by
  unfold State.acquire State.acquireZones State.grantOrWait State.wait
  repeat' split
  all_goals first | exact .refl s | exact createBundle_tables s _ _ _ _ _ | exact enqueueEntry_tables s _ _ _ _

theorem renew_tables (c : Slot) (bundle : Byte) (token term : Half) : TablesOnly s (s.renew c bundle token term).1 := by
  unfold State.renew
  repeat' split
  all_goals first | exact .refl s | exact reschedule_tables s _ _

theorem release_tables (c : Slot) (bundle : Byte) (token : Half) (zone : Byte) :
    TablesOnly s (s.release c bundle token zone).1 := by
  unfold State.release
  repeat' split
  all_goals first | exact .refl s | exact (giveUpZones_tables s _ _ _).trans (requestScan_tables _)

theorem cancel_tables (c : Slot) (tag : Byte) : TablesOnly s (s.cancel c tag).1 := by
  unfold State.cancel
  repeat' split
  all_goals first | exact .refl s | exact (removeEntry_tables s c).trans (requestScan_tables _)

theorem freshSession_tables (c : Slot) (session : Half) : TablesOnly s (s.freshSession c session) :=
  (((endBundles_tables s _ _).trans (removeEntry_tables _ c)).trans (setClient_tables _ c _)).trans (requestScan_tables _)

theorem join_tables (c : Slot) (session : Half) : TablesOnly s (s.join c session).1 := by
  unfold State.join
  repeat' split
  all_goals first | exact .refl s | exact setClient_tables s c _ | exact freshSession_tables s c _

theorem leave_tables (c : Slot) : TablesOnly s (s.leave c).1 := by
  unfold State.leave
  repeat' split
  all_goals first
    | exact .refl s
    | exact (((releaseBundles_tables s _).trans (removeEntry_tables _ c)).trans (setClient_tables _ c _)).trans
        (requestScan_tables _)

theorem status_tables (c : Slot) : TablesOnly s (s.status c).1 := by
  unfold State.status
  repeat' split
  all_goals exact .refl s

theorem evaluate_tables (c : Slot) (req : Request) : TablesOnly s (s.evaluate c req).1 := by
  cases req with
  | malformed => exact .refl s
  | join => exact join_tables s c _
  | leave => exact leave_tables s c
  | acquire => exact acquire_tables s c _ _ _ _
  | cancel => exact cancel_tables s c _
  | renew => exact renew_tables s c _ _ _
  | release => exact release_tables s c _ _ _
  | status => exact status_tables s c

theorem handleRequest_tables (c : Slot) (seq : RequestSeq) (req : Request) :
    TablesOnly s (s.handleRequest c seq req).1 := by
  unfold State.handleRequest
  split
  · exact .refl s
  · exact (evaluate_tables s c req).trans (setClient_tables _ c _)

theorem requestReply_tables (c : Slot) (seq : RequestSeq) (ack : Option Byte) (req : Request) :
    TablesOnly s (s.requestReply c seq ack req).1 :=
  (acceptReply_tables s c ack).trans (handleRequest_tables _ c seq req)

end Sys2Proof.Machine
end

