-- ==== Sys2Proof/Laws/Commands.lean ====
section
/-! SUPPORT. What a write to EXECUTE can do, what a decision leaves in the mailbox, and how argument bytes are read. -/

namespace Sys2Proof.Machine

variable (s : State)

/-- A write to EXECUTE with the row's code, while the mailbox is not BUSY, is decided on the command copy (R147). -/
theorem execute_taken {code : Byte} {decision : Block → State → State} (port : s.si.port = .writing 0x29#7)
    (free : s.mailboxBusy = false) (block : s.si.commandBlock[0] = code) :
    s.execute code decision = decision s.si.commandBlock s.startCommand := by
  simp [State.execute, State.atExecute, port, free, blockCode, block]

/-- A write to EXECUTE while the mailbox is BUSY is an overrun (R149). -/
theorem execute_overrun {code : Byte} {decision : Block → State → State} (port : s.si.port = .writing 0x29#7)
    (busy : s.mailboxBusy = true) : s.execute code decision = s.overrunWrite := by
  simp [State.execute, State.atExecute, port, busy]

/-- Everything a write to EXECUTE can do. -/
theorem execute_cases (code : Byte) (decision : Block → State → State) :
    s.execute code decision = s ∨ s.execute code decision = s.overrunWrite ∨
      s.execute code decision = decision s.si.commandBlock s.startCommand := by
  unfold State.execute
  split
  · split
    · exact .inr (.inl rfl)
    · split
      · exact .inr (.inr rfl)
      · exact .inl rfl
  · exact .inl rfl

/-- A decision of the running command stands in the mailbox with the command copy. -/
theorem respond_busy {copy : Block} {r : Option Response} (h : s.si.mailbox = .busy copy r) (result : Result) (contents : List Byte) :
    s.respond result contents =
      { s with si := { s.si with mailbox := .busy copy (some { result := result, contents := contents }) } } := by
  simp [State.respond, h]

/-- A command that is taken holds the copy, undecided. -/
theorem startCommand_mailbox : s.startCommand.si.mailbox = .busy s.si.commandBlock none := rfl

/-- A grant scan changes nothing of the Supervisor Interface. -/
theorem requestScan_si : s.requestScan.si = s.si := (requestScan_tables s).si

/-- A zone number is read back from its byte. -/
theorem zoneOfByte_val (z : ZoneId) : zoneOfByte (BitVec.ofNat 8 z.val) = some z := by
  have : z.val % 256 = z.val := by omega
  simp [zoneOfByte, this]

/-- A client slot is read back from its byte. -/
theorem slotOfByte_val (c : Slot) : slotOfByte (BitVec.ofNat 8 c.val) = some c := by
  have : c.val % 256 = c.val := by omega
  simp [slotOfByte, this]

/-- A bundle id is read back from its byte. -/
theorem bundleOfByte_val (b : BundleId) : bundleOfByte (BitVec.ofNat 8 b.val) = some b := by
  have : b.val % 256 = b.val := by omega
  simp [bundleOfByte, this]

/-- A byte above the zone numbers names no zone. -/
theorem zoneOfByte_none {b : Byte} (h : 128 ≤ b.toNat) : zoneOfByte b = none := by
  simp only [zoneOfByte, dif_neg (Nat.not_lt.mpr h)]

/-- A byte above the slots names no client. -/
theorem slotOfByte_none {b : Byte} (h : 32 ≤ b.toNat) : slotOfByte b = none := by
  simp only [slotOfByte, dif_neg (Nat.not_lt.mpr h)]

/-- A byte above the bundle ids names no bundle. -/
theorem bundleOfByte_none {b : Byte} (h : 64 ≤ b.toNat) : bundleOfByte b = none := by
  simp only [bundleOfByte, dif_neg (Nat.not_lt.mpr h)]

end Sys2Proof.Machine
end

