-- ==== Sys2Proof/Laws/Port.lean ====
section
/-! SUPPORT. What the reads of the supervisor port can do, what the discard mark changes, and what the bus lines show. -/

namespace Sys2Proof.Machine

variable (s : State)

/-! ### Reads -/

/-- The read of a byte clears the overrun flag at 01H, takes the latch at 04H and ends DONE at 2AH, and changes nothing else (R144). -/
theorem readEffect_eq (a : PortAddress) : s.readEffect a = { s with si := { s.si with
    overrun := if a = 0x01#7 then false else s.si.overrun
    latch := if a = 0x04#7 then s.lt.clock else s.si.latch
    mailbox := if a = 0x2A#7 ∧ s.si.mailbox = .done then .idle else s.si.mailbox } } := by
  unfold State.readEffect
  split
  · simp [*]
  · split
    · simp [*]
    · split <;> simp [*]

/-- One byte of a read transaction (R143, R144). -/
theorem readNext_reading {a : PortAddress} (h : s.si.port = .reading a) :
    s.readNext = { s with si := { (s.readEffect a).si with sdo := some (s.windowByte a), port := .reading (a + 1#7) } } := by
  unfold State.readNext
  rw [h]
  simp [readEffect_eq]

/-- Outside a read transaction no byte is read. -/
theorem readNext_other (h : ∀ a, s.si.port ≠ .reading a) : s.readNext = s := by
  unfold State.readNext
  split
  · exact absurd ‹_› (h _)
  all_goals rfl

/-- A byte that has been read leaves the transaction reading at the next address. -/
theorem readNext_port {a : PortAddress} (h : s.si.port = .reading a) : s.readNext.si.port = .reading (a + 1#7) := by
  rw [readNext_reading s h]

/-- A read changes the Supervisor Interface alone. -/
theorem readNext_si : s.readNext = { s with si := s.readNext.si } := by
  by_cases h : ∃ a, s.si.port = .reading a
  · obtain ⟨a, h⟩ := h
    rw [readNext_reading s h]
  · rw [readNext_other s fun a ha => h ⟨a, ha⟩]

/-! ### The discard mark -/

/-- The discard mark changes the exchange record alone (Table 7-4). -/
theorem markDiscard_es (c : Slot) : s.markDiscard c = { s with es := { s.es with exchange := (s.markDiscard c).es.exchange } } := by
  unfold State.markDiscard
  repeat' split
  all_goals rfl

/-! ### Lines -/

/-- A character takes 11 bit times (R110). -/
@[simp] theorem LineChar.bits_length (c : LineChar) : c.bits.length = 11 := rfl

/-- LBTX rests at 1 in IDLE (R122). -/
theorem lbtxLevels_idle (h : s.li.transmitter = .idle) : s.lbtxLevels = [true] := by simp [State.lbtxLevels, h]

/-- LBTX carries the characters behind one bit time at 1 (R122). -/
theorem lbtxLevels_sending {chars : List LineChar} (h : s.li.transmitter = .sending chars) :
    s.lbtxLevels = true :: chars.flatMap LineChar.bits := by simp [State.lbtxLevels, h]

/-- LBDE is active exactly while a frame is being sent (R122). -/
theorem lbdeActive_iff : s.lbdeActive = true ↔ s.li.transmitter ≠ .idle := by simp [State.lbdeActive]

/-- SDO is driven exactly in a transaction (R143). -/
theorem sdoDriven_iff : s.sdoDriven = true ↔ s.si.port ≠ .inactive := by simp [State.sdoDriven]

end Sys2Proof.Machine
end

