-- ==== Sys2Proof/Laws/Replies.lean ====
section
/-! SUPPORT. What a valid reply does before its request is evaluated (R88), said once for all requests. -/

namespace Sys2Proof.Machine

variable (s : State)

/-- Steps 1 to 3 of R88 in one record update. -/
theorem acceptReply_eq (c : Slot) (ack : Option Byte) : s.acceptReply c ack =
    { s with
      ct := s.ct.set c { s.ct[c] with
        state := if s.ct[c].state = .silent then .joined else s.ct[c].state
        misses := 0
        outbox := match ack with | some n => acknowledge n s.ct[c].outbox | none => s.ct[c].outbox }
      attn := if s.ct[c].state = .silent then s.attn.post (.returned c) s.lt.clock else s.attn } := by
  unfold State.acceptReply State.returnClient State.applyAck
  split <;> cases ack <;> simp [State.setClient, State.postAttention, *]

/-- A reply in AWAITING from the client the exchange was begun with: an IDLE is heard, and a REQUEST is heard, evaluated and answered;
a reply from any other client only ends the exchange. -/
theorem deliverReply_awaiting {x : Exchange} {w : Nat} {d : Bool} (h : s.es.exchange = .awaiting x w d) (reply : Reply) :
    s.deliverReply reply =
      let t : State := { s with li := { s.li with receiver := .hunt, lineHeld := false } }
      if s.exchangeStands x then
        match reply with
        | .idle ack => (t.acceptReply x.target ack).setExchange .gap
        | .request seq ack req =>
          (t.requestReply x.target seq ack req).1.setExchange (.answering x (t.requestReply x.target seq ack req).2 false)
      else t.setExchange .gap := by
  unfold State.deliverReply
  rw [h]
  rfl

/-- A request that is no duplicate is evaluated, and its answer stored and given to the exchange (steps 6 and 7 of R88). -/
theorem handleRequest_new {c : Slot} {seq : RequestSeq} {req : Request} (h : s.duplicateAnswer c seq req = none) :
    s.handleRequest c seq req =
      let r := s.evaluate c req
      let a : StoredAnswer := { seq := seq, answer := r.2 }
      (r.1.setClient c { r.1.ct[c] with last := some a }, a) := by
  unfold State.handleRequest
  rw [h]

/-- A duplicate changes nothing and is answered from the store (R105). -/
theorem handleRequest_duplicate {c : Slot} {seq : RequestSeq} {req : Request} {a : StoredAnswer}
    (h : s.duplicateAnswer c seq req = some a) : s.handleRequest c seq req = (s, a) := by
  unfold State.handleRequest
  rw [h]

end Sys2Proof.Machine
end

