-- ==== Sys2Proof/WellFormed.lean ====
section
/-! DEFINITION. Which commands are well formed: those whose operands the outside can bring. -/

namespace Sys2Proof

/-- The operands have the form their row gives them. An ACQUIRE body carries 0 to 6 zones: one with more makes no request and
is a MALFORMED_REQUEST (R184). A page reads back as 32 bytes (R158), the generation and the marker as four each (R159). Every
other operand is of a type that holds nothing else. The meanings are total all the same: no command is refused for its form. -/
def Instr.wellFormed : Instr → Bool
  | .acquire _ _ _ _ _ zones => decide (zones.length ≤ 6)
  | .commitErasePageDone readBack => readBack.length == 32
  | .commitProgramPageDone readBack => readBack.length == 32
  | .commitMarkGenerationDone readBack => readBack.length == 4
  | .commitMarkMarkerDone readBack => readBack.length == 4
  | .powerOnReset | .lineReset | .rstReleased | .catalogueLoad | .tick | .lapse | .waitAlarmExamination => true
  | .stopinAsserted | .stopinDeasserted | .characterReceived _ _ | .framingError | .gapLimitExpiry => true
  | .beginExchange | .transmitDone | .replyWindowTimeout | .sendAnswer | .idle _ | .malformedRequest _ _ => true
  | .join _ _ _ | .leave _ _ | .cancel _ _ _ | .renew _ _ _ _ _ | .release _ _ _ _ _ | .status _ _ => true
  | .setZone | .setClient | .setParameters | .clearCatalogue | .revert | .readZoneRecord => true
  | .readClientRecord | .readParameters | .freeze | .commit _ | .nvweInactive | .closeZone | .openZone => true
  | .clearFence | .revokeBundle | .readZoneState | .readBundle | .withdrawRequest | .readPending => true
  | .readLeaseClock | .barClient | .unbarClient | .readClientState | .fetchAttention | .start | .stop => true
  | .hold | .resume | .restart | .badCommand | .executeOverrun | .publishResponse | .readStatus1 => true
  | .readLeaseClockLatch | .readResultByte | .writeAlertEnable _ | .writeRegister _ | .lineReturnsTo1 => true
  | .transactionBegin _ | .transactionEnd => true

end Sys2Proof
end

