-- ==== Sys2Proof/Tests/Slice0.lean ====
section
/-! SUPPORT. Tests: refused ill-formed commands, check values, steps of the worked sequences, and for each statement with hypotheses a
state and operands that meet them. -/

namespace Sys2Proof.Tests

open Sys2Proof.Machine Sys2Proof.Safety Sys2Proof.Claim
set_option Elab.async false

/-! ## Well-formed commands -/

theorem test_seven_zones_ill_formed : (Instr.acquire 0 none 0 false 0 [0, 1, 2, 3, 4, 5, 6]).wellFormed = false := by decide
theorem test_short_erase_page_ill_formed : (Instr.commitErasePageDone [0xFF]).wellFormed = false := by decide
theorem test_short_program_page_ill_formed : (Instr.commitProgramPageDone []).wellFormed = false := by decide
theorem test_long_generation_ill_formed : (Instr.commitMarkGenerationDone [0, 0, 0, 0, 1]).wellFormed = false := by decide
theorem test_short_marker_ill_formed : (Instr.commitMarkMarkerDone [0xA5, 0x5A]).wellFormed = false := by decide

/-! ## Check values and byte layouts -/

/-- The ASCII string 123456789. -/
def digits : List Byte := [0x31, 0x32, 0x33, 0x34, 0x35, 0x36, 0x37, 0x38, 0x39]

/-- The check value of R113. -/
theorem test_frame_crc_check_value : crc16 digits = 0x29B1#16 := by decide +kernel

/-- The check value of R159. -/
theorem test_image_crc_check_value : crc32 digits = 0xCBF43926#32 := by decide +kernel

/-- The words of the statements give the check value of R113 too. -/
theorem test_frame_crc_words : frameCrc digits = 0x29B1#16 := by decide +kernel

/-! ## Small states -/

/-- An enabled zone of capacity 1, class 0, FENCE, maximum term 100 and renewal limit 1. -/
def zone1 : ZoneRecord :=
  { enabled := true, capacity := 1, cls := 0, policy := .fence, maxTerm := 100, renewalLimit := 1, startClosed := false }

/-- Zones 0 and 1 of class 0 and zone 2 of class 1 are enabled; slots 0 and 1 are in use at addresses 1 and 62, with class 0 and the bundle
limits 1 and 4. -/
def cat1 : Catalogue :=
  { zones := ((emptyCatalogue.zones.set 0 zone1).set 1 zone1).set 2 { zone1 with cls := 1 }
    clients := (emptyCatalogue.clients.set 0 { enabled := true, address := 1, permissions := 1, bundleLimit := 1 }).set 1
      { enabled := true, address := 62, permissions := 1, bundleLimit := 4 }
    params := { defaultParameters with autostart := true, missLimit := 1, waitAlarm := 5 } }

/-- A part in a mode with the catalogue `cat1`, its clock running. -/
def inMode (m : Mode) : State :=
  { State.reset with
    mc := { State.reset.mc with mode := m, holdCommand := m == .hold }
    cu := { State.reset.cu with catalogue := cat1 }
    lt := { State.reset.lt with tick := some 10 }
    li := { State.reset.li with receiver := .hunt } }

/-- A client is JOINED under session 1. -/
def joined (s : State) (c : Slot) : State := s.setClient c { freshClient with state := .joined, session := some 1 }

/-- The bundle of slot 0 in zone 0 with token 7 and deadline 50. -/
def bundle0 : Bundle := { holder := 0, tag := 3, token := 7, term := 50, deadline := 50, renews := 0, zones := [0] }

/-- Slot 0, JOINED, holds bundle 0 on zone 0. -/
def leased (m : Mode) : State :=
  let s := joined (inMode m) 0
  { s with ge := { s.ge with bundles := s.ge.bundles.set 0 (some bundle0)
                             zones := s.ge.zones.set 0 { closed := false, holders := [0], fences := 0 } }
           lt := { s.lt with queue := [0] } }

/-- The entry of slot 1, which waits for zone 0. -/
def entry1 : Entry := { client := 1, tag := 9, term := 20, zones := [0], stamp := 0, arrival := 0, alarmed := false }

/-- Slot 1 waits for zone 0, which slot 0 holds. -/
def waiting (m : Mode) : State := (joined (leased m) 1).setEntries [entry1]

/-- The exchange with a client at its address. -/
def exchange (c : Slot) : Exchange := { target := c, address := cat1.clients[c].address, discard := false }

/-- The exchange with the client awaits its deciding frame's end. -/
def awaited (s : State) (c : Slot) : State := s.setExchange (.awaiting (exchange c) 8 true)

/-- The write transaction stands at EXECUTE, and the command block holds these bytes. -/
def commanded (s : State) (bytes : List Byte) : State :=
  { s with si := { s.si with port := .writing 0x29#7, commandBlock := blockOfList bytes } }

/-- A commit runs at a page in a phase, with COMMIT holding the mailbox. -/
def committingAt (phase : CommitPhase) (page : Fin 64) : State :=
  { inMode .config with
    cm := { State.reset.cm with commitState := .running
                                commit := some { target := 0, generation := 1, phase := phase, page := page } }
    si := { State.reset.si with mailbox := .busy (blockOfList [0x19]) none } }

/-- A command on a small state, as its outcome. -/
def after (i : Instr) (s : State) : State := match exec i s with | .next t => t | .fault _ => s | .refused _ => s

/-! ## Steps -/

/-- An ACQUIRE of an available zone is granted as bundle 0 with token 1 and deadline 0 + 100 (R26, R30, R35). -/
theorem test_acquire_granted :
    (after (.acquire 1 none 5 false 0 [0]) (awaited (joined (inMode .serving) 0) 0)).ge.bundles[0] =
      some { holder := 0, tag := 5, token := 1, term := 100, deadline := 100, renews := 0, zones := [0] } := by decide +kernel

/-- Table 2-6, line 1: a zone that is held is UNAVAILABLE. -/
theorem test_acquire_unavailable :
    ((after (.acquire 1 none 5 false 0 [0]) (awaited (joined (leased .serving) 1) 1)).ct[1].last.map fun a => a.answer) =
      some .unavailable := by decide +kernel

/-- 12.1: the release of the zone for which an entry waits grants that entry in the same claim, into the lowest empty slot. -/
theorem test_release_scan_grants :
    ((after (.release 1 none 0 7 0xFF) (awaited (waiting .serving) 0)).ge.bundles[0].map fun x => (x.holder, x.tag, x.token)) =
      some (1, 9, 1) := by decide +kernel

/-- In HOLD the same release grants nothing (R63). -/
theorem test_release_in_hold_grants_nothing :
    (after (.release 1 none 0 7 0xFF) (awaited (waiting .hold) 0)).ge.bundles[0] = none := by decide +kernel

/-- 12.2: the requester waits for the client that waits for it. -/
theorem test_wait_would_deadlock :
    ((after (.acquire 1 none 8 true 0 [1]) (awaited
      { waiting .serving with ge := { (waiting .serving).ge with
          entries := [{ entry1 with zones := [1, 0] }] }
                              cu := { (waiting .serving).cu with catalogue := { cat1 with
          clients := cat1.clients.set 0 { cat1.clients[0] with bundleLimit := 4 } } } } 0)).ct[0].last.map fun a => a.answer) =
      some .wouldDeadlock := by decide +kernel

/-- 12.3: a lapse under FENCE leaves the unit fenced and posts FENCED. -/
theorem test_lapse_fences :
    let s := { leased .serving with lt := { (leased .serving).lt with clock := 50, lapseOpen := true } }
    (after .lapse s).ge.zones[0] = { closed := false, holders := [], fences := 1 } ∧
      (after .lapse s).attn.entries.map (fun e => e.what) = [.fenced 0] := by decide +kernel

/-- The deadline that equals the clock has passed, the one a tick later has not (R68). -/
theorem test_has_passed : hasPassed 50 50 = true ∧ hasPassed 50 51 = false ∧ hasPassed 0 0xFFFFFFFF = true := by decide

/-- 12.4: a client at its miss limit falls silent, and its entry is withdrawn. -/
theorem test_miss_limit_silences :
    let t := after .replyWindowTimeout ((waiting .serving).setExchange (.awaiting (exchange 1) 8 false))
    t.ct[1].state = .silent ∧ t.ge.entries = [] ∧ t.ct[1].outbox.map (fun n => n.body) = [.withdrawn 9 .silence] := by
  decide +kernel

/-- STATUS0 of HOLD by command, and STATUS1 of an idle part with a clear catalogue (Table 11-8). -/
theorem test_status_bytes : (inMode .hold).status0 = 0x13#8 ∧ (inMode .serving).status1 = 0x00#8 := by decide +kernel

/-- The POLL of a client at address 62 begins with its address and the direction of the part (Table 11-1). -/
theorem test_poll_address_byte : addressByteFromPart 62 = 0xBE#8 := by decide

/-- A part from stock loads no catalogue and enters CONFIG with the dirty flag set (R162, R163, R175). -/
theorem test_stock_part_enters_config :
    (after .catalogueLoad State.reset).mc.mode = .config ∧ (after .catalogueLoad State.reset).cu.dirty = true := by decide +kernel

/-- A decided command waits for SCS to go inactive, and is published then (R147). -/
theorem test_response_published_at_end :
    let s := after .freeze (commanded (inMode .config) [0x18])
    s.si.mailbox ≠ .done ∧ (after .transactionEnd s).si.mailbox = .done ∧
      (after .transactionEnd s).si.responseBlock.toList.take 2 = [0x01, 0x18] := by decide +kernel


/-! ## States and operands that meet the hypotheses of the statements -/

theorem witness_StepRunsFrontCommand : State.reset.pending = [] := rfl

/-- A part held in reset by RST, with a command waiting. -/
def heldInReset : State := { State.reset with mc := { State.reset.mc with rst := true }, pending := [.tick] }

theorem resetValues_reset : ResetValues State.reset where
  mode := by decide
  dirty := rfl
  memory := by decide
  zones z := by simp [State.reset, emptyZoneState]
  bundles b := by simp [State.reset]
  counters := by decide
  entries := rfl
  clock := by decide
  clients c := by simp [State.reset, freshClient]
  attentions := by decide
  window := by decide
  blocks := by simp [State.reset]
  port := by decide
  link := by decide
  lines := by decide
  exchange := by decide

theorem witness_ResetsLeaveResetValues :
    State.reset.mc.rst = false ∧ State.reset.cm.commit = none ∧
      (∀ choice : Byte, choice = 0x00#8 ∨ choice = 0x01#8 →
        Ready (commanded (inMode .serving) [0x44, choice]) 0x44#8 ∧ arg (commanded (inMode .serving) [0x44, choice]) 0 = choice) ∧
      (commanded (inMode .serving) [0x44, 0]).mc.mode ≠ .boot := by
  refine ⟨rfl, rfl, ?_, by decide⟩
  rintro _ (rfl | rfl) <;> decide +kernel

theorem witness_RstHoldsPartInReset :
    heldInReset.mc.rst = true ∧ HeldInReset heldInReset ∧ ∃ t, step heldInReset = .next t :=
  ⟨rfl, fun _ => ⟨⟨resetValues_reset.mode, resetValues_reset.dirty, resetValues_reset.memory, resetValues_reset.zones,
    resetValues_reset.bundles, resetValues_reset.counters, resetValues_reset.entries, resetValues_reset.clock,
    resetValues_reset.clients, resetValues_reset.attentions, resetValues_reset.window, resetValues_reset.blocks,
    resetValues_reset.port, resetValues_reset.link, resetValues_reset.lines, resetValues_reset.exchange⟩, rfl, rfl⟩, _, rfl⟩

/-- The image bytes of `cat1` read back as `cat1`. -/
theorem cat1_image : (catalogueBytes cat1).length = 1194 ∧ parseCatalogue (catalogueBytes cat1) = some cat1 := by decide +kernel

/-- `cat1` under generation `g` in a bank of `nv`. -/
theorem cat1_valid (nv : List Host.Cell) (h : nvWf nv = true) (b : Bank) (g : Word) (g0 : g ≠ 0#32) (g1 : g ≠ 0xFFFFFFFF#32) :
    classifyBank (withImage nv b cat1 g) b = .valid g cat1 :=
  classify_withImage h b cat1_image.1 cat1_image.2 g0 g1

/-- A stock part in BOOT whose memory has been replaced. -/
def booting (nv : List Host.Cell) : State := { State.reset with cm := { State.reset.cm with nv := nv } }

theorem none_valid (b : Bank) : classifyBank [] b = .unmarked := by revert b; decide

/-- One bank with `cat1` in a memory that holds nothing else. -/
theorem one_valid (b d : Bank) (g : Word) (g0 : g ≠ 0#32) (g1 : g ≠ 0xFFFFFFFF#32) (ne : d ≠ b) :
    classifyBank (withImage [] b cat1 g) b = .valid g cat1 ∧ classifyBank (withImage [] b cat1 g) d = .unmarked :=
  ⟨cat1_valid [] reset_nv_wf b g g0 g1, (classify_withImage_other reset_nv_wf cat1_image.1 ne).trans (none_valid d)⟩

/-- Both banks with `cat1`. -/
theorem both_valid (g0 g1 : Word) (h0 : g0 ≠ 0#32 ∧ g0 ≠ 0xFFFFFFFF#32) (h1 : g1 ≠ 0#32 ∧ g1 ≠ 0xFFFFFFFF#32) :
    classifyBank (withImage (withImage [] 0 cat1 g0) 1 cat1 g1) 0 = .valid g0 cat1 ∧
      classifyBank (withImage (withImage [] 0 cat1 g0) 1 cat1 g1) 1 = .valid g1 cat1 :=
  ⟨(classify_withImage_other (withImage_wf reset_nv_wf 0 cat1 g0) cat1_image.1 (by decide)).trans
      (cat1_valid [] reset_nv_wf 0 g0 h0.1 h0.2),
    cat1_valid _ (withImage_wf reset_nv_wf 0 cat1 g0) 1 g1 h1.1 h1.2⟩

theorem witness_LoadChoosesActiveBank :
    (∀ nv, (booting nv).mc.mode = .boot ∧ (booting nv).mc.rst = false ∧ (booting nv).cm.nv = nv) ∧
    (classifyBank (withImage (withImage [] 0 cat1 4) 1 cat1 5) 0 = .valid 4 cat1 ∧
      classifyBank (withImage (withImage [] 0 cat1 4) 1 cat1 5) 1 = .valid 5 cat1) ∧
    (classifyBank (withImage (withImage [] 0 cat1 5) 1 cat1 5) 0 = .valid 5 cat1 ∧
      classifyBank (withImage (withImage [] 0 cat1 5) 1 cat1 5) 1 = .valid 5 cat1) ∧
    (classifyBank (withImage [] 0 cat1 1) 0 = .valid 1 cat1 ∧ classifyBank (withImage [] 0 cat1 1) 1 = .unmarked) ∧
    (classifyBank (withImage [] 1 cat1 0xFFFFFFFE) 1 = .valid 0xFFFFFFFE cat1 ∧
      classifyBank (withImage [] 1 cat1 0xFFFFFFFE) 0 = .unmarked) ∧
    ∀ b, classifyBank [] b = .unmarked :=
  ⟨fun _ => ⟨rfl, rfl, rfl⟩, both_valid 4 5 (by decide) (by decide), both_valid 5 5 (by decide) (by decide),
    one_valid 0 1 1 (by decide) (by decide) (by decide), one_valid 1 0 0xFFFFFFFE (by decide) (by decide) (by decide), none_valid⟩

/-- The load with `cat1` in bank 0 takes it. -/
theorem load_cat1 (s : State) (nv : List Host.Cell) (hm : s.mc.mode = .boot) (hr : s.mc.rst = false) (hn : s.cm.nv = nv)
    (h : classifyBank nv 0 = .valid 1 cat1 ∧ classifyBank nv 1 = .unmarked) :
    exec .catalogueLoad s = .next ((s.takeLoad (some (0, 1, cat1))).endBoot true) := by
  simp only [exec, execCatalogueLoad, hm, hr, and_self, if_true, State.loadCatalogue, hn, h.1, h.2, chooseBank,
    State.postBankFault, Option.isSome_some]

theorem witness_LoadChoosesMode :
    ((booting []).mc.mode = .boot ∧ (booting []).mc.rst = false ∧ (booting []).mc.holdCommand = false ∧
      (booting []).mc.holdLine = false ∧ (after .catalogueLoad (booting [])).cm.active = none) ∧
    ∃ t, (booting (withImage [] 0 cat1 1)).mc.startChoice = .auto ∧ exec .catalogueLoad (booting (withImage [] 0 cat1 1)) = .next t ∧
      t.cm.active ≠ none ∧ t.cu.catalogue.params.autostart = true := by
  refine ⟨by decide +kernel, _, rfl,
    load_cat1 (booting (withImage [] 0 cat1 1)) _ rfl rfl rfl (one_valid 0 1 1 (by decide) (by decide) (by decide)), ?_⟩
  simp [State.endBoot, State.takeLoad, State.leaveBoot, State.enterService, State.setUpZones, booting, State.reset, cat1]

theorem witness_TickAdvancesClock :
    (inMode .serving).lt.tick = some 10 ∧ State.reset.lt.tick = none ∧ ∃ t, exec .tick (inMode .serving) = .next t :=
  ⟨rfl, rfl, _, rfl⟩

theorem witness_LapseEndsHeadBundle :
    let s := { leased .serving with lt := { (leased .serving).lt with clock := 50, lapseOpen := true } }
    s.lt.lapseOpen = true ∧ s.lt.queue = [0] ∧ s.ge.bundles[0] = some bundle0 ∧ (s.lt.clock - bundle0.deadline).toNat < 2 ^ 31 := by
  decide +kernel

theorem witness_WaitAlarmPostsWaiting :
    let s := { waiting .serving with lt := { (waiting .serving).lt with clock := 5, alarmOpen := true } }
    s.lt.alarmOpen = true ∧ s.cu.catalogue.params.waitAlarm ≠ 0#16 ∧ s.ge.entries = [entry1] := by decide +kernel

theorem witness_InsertionKeepsDeadlineOrder :
    let deadline : BundleId → Word := fun b => if b = 0 then 0xFFFFFFFF#32 else if b = 1 then 0x7FFFFFFE#32 else 3#32
    (∀ x ∈ [(2 : BundleId), 0, 1], (deadline x - 0xFFFFFFFF#32).toNat < 2 ^ 31) ∧
      [(0 : BundleId), 1].Pairwise fun x y => (deadline x - 0xFFFFFFFF#32).toNat ≤ (deadline y - 0xFFFFFFFF#32).toNat := by
  decide

theorem witness_StopinMovesTheMode :
    (inMode .config).inService = false ∧ (inMode .hold).inService = true ∧ (inMode .hold).mc.holdCommand = true ∧
      (let s := { inMode .hold with mc := { (inMode .hold).mc with holdCommand := false, holdLine := true, stopin := true } }
       s.mc.mode = .hold ∧ s.mc.holdCommand = false) ∧
      (inMode .serving).mc.mode = .serving ∧ (inMode .serving).mc.holdCommand = false := by decide

theorem witness_HoldAndResume :
    Ready (commanded (inMode .serving) [0x42]) 0x42#8 ∧ (commanded (inMode .serving) [0x42]).inService = true ∧
      (let s := commanded { inMode .hold with mc := { (inMode .hold).mc with holdLine := true } } [0x43]
       Ready s 0x43#8 ∧ s.inService = true ∧ s.mc.holdLine = true) ∧
      (let s := commanded (inMode .boot) [0x42]; Ready s 0x42#8 ∧ s.mc.mode = .boot) ∧
      (let s := commanded (inMode .config) [0x43]; Ready s 0x43#8 ∧ s.mc.mode = .config) ∧
      (let s := commanded (inMode .hold) [0x43]; Ready s 0x43#8 ∧ s.mc.mode = .hold ∧ s.mc.holdLine = false) ∧
      (let s := commanded (inMode .serving) [0x43]; Ready s 0x43#8 ∧ s.mc.mode = .serving ∧ s.mc.holdLine = false) := by
  decide +kernel

theorem witness_StartEntersService :
    let s := commanded (inMode .config) [0x40]
    let d := commanded { inMode .config with cu := { (inMode .config).cu with dirty := true } } [0x40]
    let c := { commanded (committingAt .erase 63) [0x40] with
      si := { (commanded (committingAt .erase 63) [0x40]).si with mailbox := .idle } }
    (Ready s 0x40#8 ∧ s.mc.mode = .config ∧ s.cm.commit = none ∧ s.cu.dirty = false) ∧
      (Ready d 0x40#8 ∧ d.mc.mode = .config ∧ d.cm.commit = none ∧ d.cu.dirty = true) ∧
      (Ready c 0x40#8 ∧ c.mc.mode = .config ∧ c.cm.commit ≠ none) := by decide +kernel

theorem witness_StopNeedsQuiescence :
    let quiet := commanded (joined (inMode .serving) 0) [0x41]
    let busy := commanded (leased .serving) [0x41]
    (Ready quiet 0x41#8 ∧ quiet.mc.mode = .serving ∧ quiet.liveBundles = [] ∧ quiet.ge.entries = [] ∧
        (quiet.ge.zones.toList.countP fun z => decide (z.fences ≠ 0)) = 0) ∧
      (Ready busy 0x41#8 ∧ busy.mc.mode = .serving ∧ busy.liveBundles ≠ []) := by decide +kernel

theorem witness_ModeChangesByItsEventsAlone : HoldReasons (inMode .serving) ∧ ∃ t, exec .stopinAsserted (inMode .serving) = .next t :=
  ⟨by unfold HoldReasons; decide, _, rfl⟩

/-- The receiver of a part in SERVING. -/
def hearing (r : Receiver) : State := (inMode .serving).setReceiver r

theorem witness_ReceiverFollowsItsTable :
    ¬ Listens State.reset ∧ Listens (hearing .hunt) ∧ Listens (hearing (.headerKind 1)) ∧
      Listens (hearing (.headerLength 1 0x12)) ∧ Listens (hearing (.body 1 0x12 2 [7])) ∧
      Listens (hearing (.check 1 0x12 0 [] none)) ∧ Listens (hearing (.check 1 0x12 0 [] (some 0))) ∧
      InFrame (hearing (.headerKind 1)) ∧ ¬ InFrame (hearing .hunt) ∧
      (56 < (57 : Byte).toNat ∧ 1 ≤ (1 : Byte).toNat ∧ (56 : Byte).toNat ≤ 56) ∧ State.reset.li.receiver = .off ∧
      (hearing .muted).li.receiver = .muted := by decide

theorem witness_SentFrameIsReceivedWhole : BodyFits [] ∧ BodyFits (List.replicate 56 (0xFF : Byte)) := by decide

theorem witness_ExchangeIsDecidedByItsFrame :
    (inMode .serving).es.exchange = .gap ∧ (awaited (inMode .serving) 0).es.exchange = .awaiting (exchange 0) 8 true ∧
      ((inMode .serving).setExchange (.awaiting (exchange 0) 2 false)).es.exchange = .awaiting (exchange 0) 2 false := by decide

/-- A part that awaits the last character of a frame. -/
def lastOf (f : Frame) : State :=
  let crc := frameCrc (f.address :: f.kind :: BitVec.ofNat 8 f.body.length :: f.body)
  (awaited (joined (inMode .serving) 0) 0).setReceiver
    (.check f.address f.kind (BitVec.ofNat 8 f.body.length) f.body (some ((crc >>> 8).truncate 8)))

/-- The low byte of a frame's CRC. -/
def lastByte (f : Frame) : Byte := (frameCrc (f.address :: f.kind :: BitVec.ofNat 8 f.body.length :: f.body)).truncate 8

theorem witness_DecidingFrameIsJudged :
    ∀ f ∈ [({ address := 1, kind := 0x11, body := [] } : Frame), { address := 1, kind := 0x11, body := [5] },
        { address := 1, kind := 0x12, body := [0x83, 5, 7] }, { address := 1, kind := 0x12, body := [0x03, 5] },
        { address := 0x81, kind := 0x11, body := [] }, { address := 2, kind := 0x11, body := [] },
        { address := 1, kind := 0x13, body := [] }, { address := 1, kind := 0x11, body := [1, 2] },
        { address := 1, kind := 0x12, body := [1] }],
      (lastOf f).es.exchange = .awaiting (exchange 0) 8 true ∧ Listens (lastOf f) ∧
        (lastOf f).li.receiver = .check f.address f.kind (BitVec.ofNat 8 f.body.length) f.body
          (some ((frameCrc (f.address :: f.kind :: BitVec.ofNat 8 f.body.length :: f.body) >>> 8).truncate 8)) ∧
        frameCrc (f.address :: f.kind :: BitVec.ofNat 8 f.body.length :: f.body) =
          (frameCrc (f.address :: f.kind :: BitVec.ofNat 8 f.body.length :: f.body) >>> 8).truncate 8 ++ lastByte f := by
  decide +kernel

theorem witness_BeginExchangePollsWhoseTurnItIs :
    let quiet := { inMode .serving with cu := { (inMode .serving).cu with catalogue := emptyCatalogue } }
    let ready (s : State) : Prop := s.inService = true ∧ s.es.exchange = .gap ∧ s.li.transmitter = .idle
    (CatalogueSound (inMode .serving) ∧ ready (inMode .serving) ∧ RollCallDue (inMode .serving) ∧
      PickedFrom (inMode .serving) (InRollCall (inMode .serving)) 1 0 ∧
      PickedFrom (inMode .serving) (InRollCall (inMode .serving)) 2 1) ∧
    (let s := joined (inMode .serving) 1
     CatalogueSound s ∧ ready s ∧ ¬ RollCallDue s ∧ PickedFrom s (InRotation s) 62 1 ∧ PickedFrom s (InRotation s) 1 1) ∧
    (CatalogueSound quiet ∧ ready quiet ∧ (∀ c, ¬ InRotation quiet c) ∧ ∀ c, ¬ InRollCall quiet c) ∧
    (CatalogueSound (inMode .config) ∧ ¬ ready (inMode .config)) := by
  unfold CatalogueSound; refine ⟨?_, ?_, ?_, ?_⟩ <;> decide +kernel

theorem witness_FramesSentMoveTheExchange :
    let x := exchange 1
    let a : StoredAnswer := { seq := 3, answer := .cancelled }
    let sending (s : State) : State := { s with li := { s.li with transmitter := .sending [] } }
    (sending ((inMode .serving).setExchange (.polling x))).es.exchange = .polling x ∧
      (sending ((inMode .serving).setExchange (.answering x a true))).es.exchange = .answering x a true ∧
      (inMode .serving).li.transmitter = .idle ∧
      ((inMode .serving).setExchange (.answering x a false)).es.exchange = .answering x a false ∧ x.address = 62 ∧
      ((inMode .serving).transmit 62 0x01 [7]).li.transmitter = .sending (frameLayout 0xBE 0x01 [7]) := by
  decide +kernel

/-- The first 12 levels of LBTX of a POLL to address 62: one bit time at 1, then BEH with mark bit 1 between start and stop bit (R110,
R122). A reset returns the line to 1 (R124). -/
theorem test_line_levels :
    ((inMode .serving).transmit 62 0x01 [7]).lbtxLevels.take 12 =
        [true, false, false, true, true, true, true, true, false, true, true, true] ∧
      (after .powerOnReset ((inMode .serving).transmit 62 0x01 [7])).lbtxLevels = [true] := by decide +kernel

theorem witness_SilenceCutsBundles :
    let lonely := joined (inMode .serving) 0
    (lonely.cu.catalogue.clients[0].enabled = true ∧ ¬ Waits lonely 0 ∧ bundleCount lonely 0 = 0) ∧
      (¬ Waits (leased .serving) 0 ∧ bundleCount (leased .serving) 0 ≠ 0) ∧
      (waiting .serving).entryOf 1 = some entry1 ∧ QueueHoldsBundles (leased .serving) := by
  refine ⟨by decide +kernel, by decide +kernel, by decide +kernel, ?_⟩
  unfold QueueHoldsBundles; decide +kernel

/-- A SILENT client in use, with the outbox of two notices. -/
def silent : State :=
  (inMode .serving).setClient 0 { freshClient with
    state := .silent, session := some 1, nextNotice := 1, last := some { seq := 5, answer := .cancelled }
    outbox := [{ seq := 0xFF, body := .resync }, { seq := 0, body := .withdrawn 9 .silence }] }

theorem witness_ReplyIsHeard :
    silent.ct[0].state = .silent ∧ (joined (inMode .serving) 0).ct[0].state ≠ .silent ∧
      Awaits (awaited silent 0) (exchange 0) 8 true := by decide +kernel

theorem witness_AcknowledgementEmptiesOutbox :
    let s := awaited silent 0
    Awaits s (exchange 0) 8 true ∧
      s.ct[0].outbox = [{ seq := 0xFF, body := .resync }] ++ { seq := 0, body := .withdrawn 9 .silence } :: [] ∧
      s.ct[0].outbox = [] ++ { seq := 0xFF, body := .resync } :: [{ seq := 0, body := .withdrawn 9 .silence }] ∧
      ∀ y ∈ s.ct[0].outbox, y.seq ≠ 1#8 := by decide +kernel

theorem witness_DuplicatesAndStrayRepliesActOnNothing :
    let s := awaited silent 0
    (Awaits s (exchange 0) 8 true ∧ s.ct[0].last = some { seq := 5, answer := .cancelled } ∧ s.ct[0].state ≠ .absent) ∧
      (¬ Stands s { exchange 0 with discard := true } ∧ ¬ Stands s { exchange 0 with address := 2 } ∧
        ¬ Stands (s.setClient 0 { freshClient with state := .barred }) (exchange 0) ∧ ¬ Stands s { exchange 0 with target := 2 }) ∧
      silent.es.exchange = .gap := by decide +kernel

theorem witness_RequestsNeedModeSessionAndToken :
    (Awaits (awaited (inMode .config) 0) (exchange 0) 8 true ∧ NewSequence (awaited (inMode .config) 0) 0 0 ∧
      (awaited (inMode .config) 0).inService = false ∧ Request.status ≠ .malformed) ∧ (∀ session, Request.status ≠ .join session) ∧
    (Awaits (awaited (inMode .hold) 0) (exchange 0) 8 true ∧ (awaited (inMode .hold) 0).inService = true ∧
      (awaited (inMode .hold) 0).ct[0].state = .absent) ∧
    (Asks (awaited (joined (leased .serving) 1) 1) (exchange 1) 8 true 0 ∧
      ∀ (b : BundleId) (y : Bundle), (0 : Byte) = bundleByte b →
        (awaited (joined (leased .serving) 1) 1).ge.bundles[b] = some y → y.holder ≠ (exchange 1).target) ∧
    (Asks (awaited (leased .serving) 0) (exchange 0) 8 true 0 ∧ (0 : Byte) = bundleByte 0 ∧
      (awaited (leased .serving) 0).ge.bundles[0] = some bundle0 ∧ bundle0.holder = (exchange 0).target ∧ bundle0.token ≠ 8) := by
  refine ⟨by decide +kernel, fun _ h => Request.noConfusion h, by decide +kernel, ⟨by decide +kernel, ?_⟩, by decide +kernel⟩
  intro b y hb hy
  have : b = 0 := by
    have := congrArg BitVec.toNat hb
    simp at this
    exact Fin.ext (by have := b.2; simp; omega)
  subst this
  have : some bundle0 = some y := (by decide +kernel : some bundle0 = _).trans hy
  cases this
  decide

theorem witness_SessionsOpenAndClose :
    (Awaits (awaited (inMode .serving) 0) (exchange 0) 8 true ∧ (awaited (inMode .serving) 0).inService = true ∧
      (0xFFFF : Half) ≠ 0#16 ∧ (awaited (inMode .serving) 0).ct[0].state = .absent) ∧
    (let s := awaited silent 0
     Awaits s (exchange 0) 8 true ∧ s.inService = true ∧ Present s 0 ∧ NewSequence s 0 6 ∧ s.ct[0].session = some 1 ∧
       s.ct[0].session ≠ some 2) ∧
    (Awaits (awaited (inMode .config) 0) (exchange 0) 8 true ∧ (awaited (inMode .config) 0).inService = false) ∧
    Asks (awaited (leased .serving) 0) (exchange 0) 8 true 0 := by decide +kernel

/-- The bounding term and the resolved term of a request for zone 1. -/
theorem bounding_zone1 (s : State) (h : s.cu.catalogue = cat1) : IsBoundingTerm s [1] 100 ∧ ResolvesTo 100 0 100 ∧ ResolvesTo 100 100 100 := by
  refine ⟨⟨⟨1, by simp, ?_⟩, ?_⟩, by decide, by decide⟩
  · rw [h]; decide +kernel
  · intro z hz
    rw [List.mem_singleton] at hz
    subst hz
    rw [h]
    decide +kernel

theorem witness_AcquireGrantsAtOnce :
    let s := awaited (joined (leased .serving) 1) 1
    Awaits s (exchange 1) 8 true ∧ NewSequence s 1 0 ∧ Admissible s 1 [1] 100 100 ∧ GrantedInto s [1] 1 := by
  intro s
  have b := bounding_zone1 s rfl
  refine ⟨by decide +kernel, by decide +kernel, ⟨by decide +kernel, by decide +kernel, ⟨100, b.1, b.2.2⟩, ?_, by decide +kernel,
    by decide +kernel⟩, ⟨by decide +kernel, by decide +kernel, by decide +kernel⟩⟩
  rintro z hz ⟨d, y, hy, hh, -⟩
  have one : ∀ d : BundleId, s.holdsBundle 1 d = false := by decide +kernel
  have := one d
  simp only [State.holdsBundle] at this
  rw [Option.mem_def.1 hy] at this
  simp [hh] at this

/-- Slot 1 of `s` holds nothing when no slot of the bundle table holds a bundle of it. -/
theorem holds_nothing {s : State} {c : Slot} (h : ∀ d : BundleId, s.holdsBundle c d = false) (z : ZoneId) : ¬ Holds s c z := by
  rintro ⟨d, y, hy, hh, -⟩
  have := h d
  simp only [State.holdsBundle] at this
  rw [Option.mem_def.1 hy] at this
  simp [hh] at this

theorem holds_nothing' {s : State} {c : Slot} (h : ∀ d : BundleId, s.holdsBundle c d = false) (zs : List ZoneId) :
    ∀ z ∈ zs, ¬ Holds s c z := fun z _ => holds_nothing h z

/-- The bundle table is full of bundles of slot 5 on no zone that matters. -/
def fullTable (s : State) : State :=
  { s with ge := { s.ge with bundles := Vector.replicate 64 (some { bundle0 with holder := 5, zones := [9] }) } }

theorem witness_AcquireWaitsOrIsTurnedAway :
    (let s := awaited (joined (inMode .hold) 1) 1
     Awaits s (exchange 1) 8 true ∧ NewSequence s 1 0 ∧ Admissible s 1 [1] 0 100 ∧ NotGranted s [1] ∧
       ¬ (∃ z ∈ [(1 : ZoneId)], ¬ Available s z ∨ Named s z) ∧ ¬ TableFull s ∧ ¬ Reaches s 1 [1]) ∧
    (let s := awaited (fullTable (joined (inMode .serving) 1)) 1
     Awaits s (exchange 1) 8 true ∧ NewSequence s 1 0 ∧ Admissible s 1 [1] 0 100 ∧ NotGranted s [1] ∧
       ¬ (∃ z ∈ [(1 : ZoneId)], ¬ Available s z ∨ Named s z) ∧ TableFull s) ∧
    (let s0 := awaited (joined (inMode .serving) 1) 1
     let s := s0.setZone 1 { closed := true, holders := [], fences := 0 }
     Awaits s (exchange 1) 8 true ∧ NewSequence s 1 0 ∧ Admissible s 1 [1] 0 100 ∧ NotGranted s [1] ∧
       ∃ z ∈ [(1 : ZoneId)], ¬ Available s z ∨ Named s z) ∧
    (let s := awaited ((joined (joined (inMode .serving) 1) 0).setEntries [{ entry1 with client := 0, zones := [1, 0] },
       { entry1 with client := 5, zones := [9] }]) 1
     NotGranted s [1] ∧ EdgeTo s s.ge.entries [1] 0) := by
  refine ⟨?_, ?_, ?_, ?_⟩
  · intro s
    have b := bounding_zone1 s rfl
    refine ⟨by decide +kernel, by decide +kernel, ⟨by decide +kernel, by decide +kernel, ⟨100, b.1, b.2.1⟩,
      holds_nothing' (by decide +kernel) _, by decide +kernel, by decide +kernel⟩, by decide +kernel, by decide +kernel,
      by decide +kernel, ?_⟩
    rintro ⟨d, (⟨z, hz, -, -, hl, -⟩ | ⟨e, he, -⟩), -⟩
    · rw [List.mem_singleton] at hz; subst hz; revert hl; decide +kernel
    · revert he; simp [s, awaited, joined, inMode, State.setExchange, State.setClient, State.reset]
  · intro s
    have b := bounding_zone1 s rfl
    exact ⟨by decide +kernel, by decide +kernel, ⟨by decide +kernel, by decide +kernel, ⟨100, b.1, b.2.1⟩,
      holds_nothing' (by decide +kernel) _, by decide +kernel, by decide +kernel⟩, by decide +kernel, by decide +kernel,
      by decide +kernel⟩
  · intro s0 s
    have b := bounding_zone1 s rfl
    exact ⟨by decide +kernel, by decide +kernel, ⟨by decide +kernel, by decide +kernel, ⟨100, b.1, b.2.1⟩,
      holds_nothing' (by decide +kernel) _, by decide +kernel, by decide +kernel⟩, by decide +kernel, by decide +kernel⟩
  · exact ⟨by decide +kernel, .inr (by decide +kernel)⟩

theorem witness_AcquireChecksRefuseInOrder :
    (let s := awaited (joined (leased .serving) 1) 1
     Asks s (exchange 1) 8 true 0 ∧ ([] : List Byte).length ≤ 6 ∧ ¬ ([4, 4] : List Byte).Nodup ∧
       ((zoneBytes [0] ++ 0x80 :: []).Nodup ∧ s.cu.catalogue.zones[(0 : ZoneId)].enabled = true ∧ 128 ≤ (0x80 : Byte).toNat) ∧
       s.cu.catalogue.zones[(127 : ZoneId)].enabled = false ∧
       (ZonesNamed s 1 [0, 2] ∧ FirstZone [0, 2] (fun y => ¬ Permitted s 1 y) 2) ∧
       (ZonesNamed s 1 [1] ∧ (∀ z ∈ [(1 : ZoneId)], Permitted s 1 z) ∧ IsBoundingTerm s [1] 100 ∧
         (100 : Half).toNat < (101 : Half).toNat)) ∧
    (let s := awaited (leased .serving) 0
     Asks s (exchange 0) 8 true 0 ∧ ZonesNamed s 0 [0] ∧ FirstZone [0] (Holds s 0) 0) ∧
    (let s := awaited ((joined (inMode .serving) 1).setEntries [{ entry1 with zones := [9] }]) 1
     Asks s (exchange 1) 8 true 0 ∧ ZonesNamed s 1 [1] ∧ (∀ z ∈ [(1 : ZoneId)], ¬ Holds s 1 z) ∧ Waits s 1) ∧
    (let s := awaited (leased .serving) 0
     Asks s (exchange 0) 8 true 0 ∧ ZonesNamed s 0 [1] ∧ (∀ z ∈ [(1 : ZoneId)], ¬ Holds s 0 z) ∧ ¬ Waits s 0 ∧
       s.cu.catalogue.clients[(0 : Slot)].bundleLimit ≤ bundleCount s 0) := by
  refine ⟨?_, ?_, ?_, ?_⟩
  · intro s
    exact ⟨by decide +kernel, by decide, by decide, by decide +kernel, by decide +kernel,
      ⟨by decide +kernel, [0], [], rfl, by decide +kernel, by decide +kernel⟩, by decide +kernel, by decide +kernel,
      (bounding_zone1 s rfl).1, by decide⟩
  · exact ⟨by decide +kernel, by decide +kernel, [], [], rfl, ⟨0, bundle0, by decide +kernel, rfl, by decide⟩, by simp⟩
  · exact ⟨by decide +kernel, by decide +kernel, holds_nothing' (by decide +kernel) _, by decide +kernel⟩
  · refine ⟨by decide +kernel, by decide +kernel, ?_, by decide +kernel, by decide +kernel⟩
    rintro z hz ⟨d, y, hy, -, hz'⟩
    rw [List.mem_singleton] at hz
    subst hz
    have all : ∀ d : BundleId, (1 : ZoneId) ∉ (awaited (leased .serving) 0).zonesOfBundle d := by decide +kernel
    have := all d
    simp only [State.zonesOfBundle] at this
    rw [Option.mem_def.1 hy] at this
    exact this hz'

theorem witness_CancelRemovesEntry :
    Asks (awaited (waiting .serving) 1) (exchange 1) 8 true 0 ∧ (awaited (waiting .serving) 1).entryOf 1 = some entry1 ∧
      entry1.tag = 9#8 ∧ entry1.tag ≠ 8#8 ∧ Asks (awaited (leased .serving) 0) (exchange 0) 8 true 0 ∧
      ¬ Waits (awaited (leased .serving) 0) 0 := by decide +kernel

/-- The bounding term of the bundle of zone 0, and a state in which its limit of one renewal is used up. -/
theorem witness_RenewSetsDeadline :
    (let s := awaited (leased .serving) 0
     Asks s (exchange 0) 8 true 0 ∧ Presents s 0 0 bundle0 7 ∧ IsBoundingTerm s bundle0.zones 100 ∧ ResolvesTo 100 0 100 ∧
       ResolvesTo 100 100 100 ∧ RenewalAdmitted s bundle0.zones bundle0.renews ∧ (100 : Half).toNat < (101 : Half).toNat) ∧
    (let y := { bundle0 with renews := 1 }
     let s := awaited ((leased .serving).setBundle 0 (some y)) 0
     Asks s (exchange 0) 8 true 0 ∧ Presents s 0 0 y 7 ∧ IsBoundingTerm s y.zones 100 ∧
       ¬ RenewalAdmitted s y.zones y.renews) := by
  refine ⟨⟨by decide +kernel, by decide +kernel, ⟨⟨0, by decide, by decide +kernel⟩, by decide +kernel⟩, by decide, by decide,
    by decide +kernel, by decide⟩, by decide +kernel, by decide +kernel, ⟨⟨0, by decide, by decide +kernel⟩, by decide +kernel⟩,
    by decide +kernel⟩

theorem witness_ReleaseGivesUpZones :
    let s := awaited (leased .serving) 0
    Asks s (exchange 0) 8 true 0 ∧ Presents s 0 0 bundle0 7 ∧ (0 : ZoneId) ∈ bundle0.zones ∧ bundle0.zones.Nodup ∧
      (1 : Byte) ≠ 0xFF#8 ∧ ∀ z ∈ bundle0.zones, (1 : Byte) ≠ BitVec.ofNat 8 z.val := by decide +kernel

theorem witness_StatusReportsLeases : Asks (awaited (leased .hold) 0) (exchange 0) 8 true 15 := by decide +kernel

theorem witness_RepliesTouchNoOtherClientsBundle :
    let s := awaited (joined (leased .serving) 1) 1
    s.es.exchange = .awaiting (exchange 1) 8 true ∧ s.ge.bundles[(0 : BundleId)] = some bundle0 ∧
      bundle0.holder ≠ (exchange 1).target ∧ ∃ t, exec (.join 0 none 2) s = .next t :=
  ⟨by decide +kernel, by decide +kernel, by decide, _, rfl⟩

theorem witness_CreationFillsBundle :
    (leased .serving).ge.bundles[(63 : BundleId)] = none ∧ ([1, 2] : List ZoneId).Nodup := by decide +kernel

theorem witness_EndsAndReleasesFreeTheirUnits :
    (leased .serving).ge.bundles[(0 : BundleId)] = some bundle0 ∧ bundle0.zones.Nodup ∧ ([0] : List ZoneId).Nodup ∧
      ([] : List ZoneId).Nodup := by decide +kernel

/-- Slot 1 waits for zone 0, which nobody holds, with `n` notices in its outbox. -/
def grantable (n : Nat) : State :=
  ((inMode .serving).setClient 1 { freshClient with
    state := .joined, session := some 1, nextNotice := BitVec.ofNat 8 n
    outbox := (List.range n).map fun i => { seq := BitVec.ofNat 8 i, body := .resync } }).setEntries [entry1]

theorem witness_ScanServesByAge :
    (inMode .hold).mc.mode ≠ .serving ∧ (waiting .serving).mc.mode = .serving ∧
      ((waiting .serving).ge.entries.map fun e => e.client).Nodup ∧ (waiting .serving).ge.entries = [] ++ entry1 :: [] ∧
      (waiting .serving).requestScan.ge.entries = [] ++ entry1 :: [] ∧
      ∀ n ∈ [7, 8], (grantable n).mc.mode = .serving ∧ ((grantable n).ge.entries.map fun e => e.client).Nodup ∧
        (grantable n).ge.entries = [] ++ entry1 :: [] ∧ entry1 ∉ (grantable n).requestScan.ge.entries ∧
        TakesNotices (grantable n) 1 := by
  decide +kernel

/-- A scan's grant posts GRANT (R55), which a full outbox turns into RESYNC (R103). -/
theorem test_scan_posts_grant :
    (grantable 0).requestScan.ct[1].outbox = [{ seq := 0, body := .grant 9 0 1 20 }] ∧
      (grantable 8).requestScan.ct[1].outbox = [{ seq := 8, body := .resync }] := by decide +kernel

/-- A scan takes the lowest empty slot and the token of the counter (R24, R25), and the queue holds the bundle by its deadline (R70). -/
theorem test_scan_takes_lowest_slot :
    (grantable 0).requestScan = scanGranted (grantable 0) entry1 ∧ (grantable 0).requestScan.lt.queue = [0] := by decide +kernel

theorem witness_NoGrantOutsideServing :
    (waiting .hold).mc.mode ≠ .serving ∧ (waiting .hold).ge.bundles[(1 : BundleId)] = none ∧
      ∃ t, exec .tick (waiting .hold) = .next t ∧ t.mc.mode ≠ .serving :=
  ⟨by decide, by decide +kernel, _, rfl, by decide⟩

/-- A client with a full outbox. -/
def fullOutbox : State :=
  (inMode .serving).setClient 0 { freshClient with
    state := .silent, session := some 1, nextNotice := 8
    outbox := (List.range 8).map fun i => { seq := BitVec.ofNat 8 i, body := .withdrawn 0 .silence } }

theorem witness_NoticesJoinOutbox :
    (TakesNotices silent 0 ∧ silent.ct[(0 : Slot)].outbox.length < 8) ∧
      (TakesNotices fullOutbox 0 ∧ 8 ≤ fullOutbox.ct[(0 : Slot)].outbox.length) ∧
      ¬ TakesNotices (inMode .serving) 0 ∧ ¬ TakesNotices (joined (inMode .serving) 2) 2 := by decide +kernel

/-- An Attention Set of `n` zones fenced. -/
def attentive (n : Nat) : State :=
  { commanded (inMode .serving) [0x38] with
    attn := { entries := (List.range n).map fun i => { what := .fenced (Fin.ofNat 128 i), stamp := 0, count := 255 }, overflow := true } }

theorem witness_AttentionsArePostedAndFetched :
    ((attentive 1).attn.entries = [] ++ { what := .fenced 0, stamp := 0, count := 255 } :: []) ∧
      ((∀ e ∈ (attentive 47).attn.entries, e.what ≠ .silent 0) ∧ (attentive 47).attn.entries.length < 48) ∧
      ((∀ e ∈ (attentive 48).attn.entries, e.what ≠ .silent 0) ∧ 48 ≤ (attentive 48).attn.entries.length) ∧
      (Ready (attentive 1) 0x38#8 ∧ (attentive 1).mc.mode ≠ .boot ∧
        (attentive 1).attn.entries = { what := .fenced 0, stamp := 0, count := 255 } :: []) ∧
      Ready (attentive 0) 0x38#8 ∧ (attentive 0).attn.entries = [] := by decide +kernel

/-- Any command code with any two argument bytes can stand ready at EXECUTE. -/
theorem commanded_ready {s : State} (h : s.mailboxBusy = false) (code x y : Byte) :
    Ready (commanded s [code, x, y]) code ∧ arg (commanded s [code, x, y]) 0 = x ∧ arg (commanded s [code, x, y]) 1 = y :=
  ⟨⟨rfl, h, rfl⟩, rfl, rfl⟩

theorem witness_ZoneCommandsSetFlagAndFences :
    (∀ (code : Byte) (z : ZoneId),
      let s := commanded (leased .serving) [code, BitVec.ofNat 8 z.val, 0]
      Ready s code ∧ arg s 0 = BitVec.ofNat 8 z.val ∧ s.inService = true ∧ s.ge.zones[(127 : ZoneId)].closed = false ∧
        s.ge.zones[(127 : ZoneId)].fences = 0) ∧
      (let s := commanded ((leased .hold).setZone 0 { closed := true, holders := [0], fences := 1 }) [0x22, 0]
       Ready s 0x22#8 ∧ s.inService = true ∧ s.ge.zones[(0 : ZoneId)].closed = true ∧ s.ge.zones[(0 : ZoneId)].fences ≠ 0) :=
  ⟨fun code z => ⟨(commanded_ready rfl code _ 0).1, (commanded_ready rfl code _ 0).2.1, rfl,
    show (leased .serving).ge.zones[(127 : ZoneId)].closed = false by decide +kernel,
    show (leased .serving).ge.zones[(127 : ZoneId)].fences = 0 by decide +kernel⟩, by decide +kernel⟩

theorem witness_RevokeAndWithdrawTakeBack :
    (∀ p ∈ [ExpiryPolicy.free, .fence],
      let s := commanded (leased .serving) [0x23, 0, match p with | .free => 0x00#8 | .fence => 0x01#8]
      Ready s 0x23#8 ∧ s.inService = true ∧ arg s 0 = bundleByte 0 ∧
        arg s 1 = (match p with | .free => 0x00#8 | .fence => 0x01#8) ∧ s.ge.bundles[(0 : BundleId)] = some bundle0) ∧
      (commanded (leased .serving) [0x23, 63]).ge.bundles[(63 : BundleId)] = none ∧
      (let s := commanded (waiting .hold) [0x26, 1]
       Ready s 0x26#8 ∧ s.inService = true ∧ arg s 0 = BitVec.ofNat 8 (1 : Slot).val ∧ s.ge.entries = [] ++ entry1 :: [] ∧
         entry1.client = 1 ∧ ¬ Waits s 0) := by decide +kernel

theorem witness_ReadsReportTables :
    (∀ code x : Byte,
      let s := commanded (waiting .serving) [code, x, 0]
      s.mc.mode ≠ .boot ∧ Ready s code ∧ arg s 0 = x) ∧
      (let s := waiting .serving
       s.ge.bundles[(0 : BundleId)] = some bundle0 ∧ s.ge.bundles[(63 : BundleId)] = none ∧ s.ge.entries = [] ++ entry1 :: [] ∧
         s.lt.tick = some 10 ∧ s.cu.catalogue.clients[(0 : Slot)].enabled = true ∧ bundleCount s 0 ≤ 4) :=
  ⟨fun code x => ⟨Mode.noConfusion, (commanded_ready rfl code x 0).1, (commanded_ready rfl code x 0).2.1⟩, by decide +kernel⟩

theorem witness_BarAndUnbarClient :
    (∀ code x : Byte,
      let s := commanded (leased .serving) [code, 0, x]
      s.mc.mode ≠ .boot ∧ s.cu.catalogue.clients[(0 : Slot)].enabled = true ∧ arg s 0 = BitVec.ofNat 8 (0 : Slot).val ∧
        arg s 1 = x ∧ Ready s code ∧ s.ct[(0 : Slot)].state ≠ .barred) ∧
      (let s := commanded ((inMode .config).setClient 0 { freshClient with state := .barred }) [0x31, 0]
       s.mc.mode ≠ .boot ∧ Ready s 0x31#8 ∧ s.ct[(0 : Slot)].state = .barred) :=
  ⟨fun code x => ⟨Mode.noConfusion, show (leased .serving).cu.catalogue.clients[(0 : Slot)].enabled = true by decide +kernel,
    (commanded_ready rfl code 0 x).2.1, (commanded_ready rfl code 0 x).2.2, (commanded_ready rfl code 0 x).1,
    show (leased .serving).ct[(0 : Slot)].state ≠ .barred by decide +kernel⟩, by decide +kernel⟩

/-- A bar of the target sets the discard mark in ANSWERING too, and the ANSWER is sent all the same (R140). -/
theorem test_bar_while_answering :
    let a : StoredAnswer := { seq := 3, answer := .cancelled }
    let s := after .barClient (commanded ((leased .serving).setExchange (.answering (exchange 0) a false)) [0x30, 0, 0])
    s.es.exchange = .answering { exchange 0 with discard := true } a false ∧
      (after .sendAnswer s).es.exchange = .answering { exchange 0 with discard := true } a true := by decide +kernel

theorem witness_EditsReplaceCatalogue :
    (let s := commanded (inMode .config) [0x10, 127, 0xFF, 4, 15, 1, 0, 1, 0, 0xFE]
     s.mc.mode = .config ∧ s.cu.freeze = false ∧ s.cm.commit = none ∧ Ready s 0x10#8 ∧
       arg s 0 = BitVec.ofNat 8 (127 : ZoneId).val ∧
       args s 1 = 0xFF :: 4 :: 15 :: 1 :: 0 :: 1 :: 0 :: 0xFE :: List.replicate 22 0) ∧
    (let s := commanded (inMode .config) [0x11, 31, 1, 2, 0, 1, 4]
     Ready s 0x11#8 ∧ args s 1 = 1 :: 2 :: 0 :: 1 :: 4 :: List.replicate 25 0 ∧
       ∀ d : Slot, d ≠ 31 → s.cu.catalogue.clients[d].enabled = true → s.cu.catalogue.clients[d].address ≠ 2) ∧
    (let s := commanded (inMode .config) [0x12, 250, 7, 63, 15, 255, 0, 0, 0, 0, 1]
     Ready s 0x12#8 ∧ args s 0 = 250 :: 7 :: 63 :: 15 :: 255 :: 0 :: 0 :: 0 :: 0 :: 1 :: List.replicate 21 0) ∧
    Ready (commanded (inMode .config) [0x13]) 0x13#8 ∧ Ready (commanded (inMode .config) [0x14]) 0x14#8 ∧
    (commanded (inMode .config) [0x14]).cm.active = none := by decide +kernel

theorem witness_RevertFindsItsBank :
    ∀ nv : List Host.Cell,
      let s := commanded { inMode .config with cm := { (inMode .config).cm with nv := nv, active := some (0, 1) } } [0x14]
      Ready s 0x14#8 ∧ s.cm.active = some (0, 1) ∧ (nv = [] → classifyBank s.cm.nv 0 = .unmarked) ∧
        (nv = withImage [] 0 cat1 1 → classifyBank s.cm.nv 0 = .valid 1 cat1) := by
  intro nv s
  refine ⟨⟨rfl, rfl, rfl⟩, rfl, ?_, ?_⟩
  · intro h
    change classifyBank nv 0 = .unmarked
    rw [h]
    exact none_valid 0
  · intro h
    change classifyBank nv 0 = .valid 1 cat1
    rw [h]
    exact cat1_valid [] reset_nv_wf 0 1 (by decide) (by decide)

theorem witness_CatalogueReadsAndFreeze :
    ∀ code x : Byte,
      let s := commanded (inMode .hold) [code, x, 0]
      s.mc.mode ≠ .boot ∧ Ready s code ∧ arg s 0 = x :=
  fun code x => ⟨Mode.noConfusion, (commanded_ready rfl code x 0).1, (commanded_ready rfl code x 0).2.1⟩

theorem witness_CatalogueImageReadsBack : emptyCatalogue.valid = true ∧ cat1.valid = true := by decide +kernel

theorem witness_CommitBegins :
    (let s := commanded (inMode .config) [0x19]
     Ready s 0x19#8 ∧ s.mc.mode = .config ∧ s.cu.freeze = false ∧ s.cm.commit = none ∧ nvWf s.cm.nv = true ∧
       s.cm.active = none) ∧
      (∀ g : Word, let s := commanded { inMode .config with cm := { (inMode .config).cm with active := some (1, g) } } [0x19]
        Ready s 0x19#8 ∧ s.cm.active = some (1, g) ∧ nvWf s.cm.nv = true) ∧ (0 : Bank) ≠ 1 :=
  ⟨by decide +kernel, fun _ => ⟨⟨rfl, rfl, rfl⟩, rfl, rfl⟩, by decide⟩

theorem witness_CommitStepsAdvanceOrFail :
    (∀ p ∈ [(CommitPhase.erase, (63 : Fin 64)), (.erase, 61), (.erase, 62), (.program, 0), (.program, 62), (.markGeneration, 63),
        (.markMarker, 63)],
      let s := committingAt p.1 p.2
      Commits s { target := 0, generation := 1, phase := p.1, page := p.2 } (blockOfList [0x19]) ∧ nvWf s.cm.nv = true ∧
        pageBytes s.cm.nv 0 p.2.val = List.replicate 32 0xFF#8) ∧
      (List.replicate 32 (0 : Byte)).length = 32 ∧ ((List.replicate 32 (0 : Byte)).drop 4).take 4 ≠ validMarker ∧
      (wordBytes 1).length = 4 ∧ (inMode .config).cm.commit = none := by decide +kernel

/-- A commit that has only begun has made no progress that could be wrong. -/
theorem progress_begun : CommitProgress (committingAt .erase 63) { target := 0, generation := 1, phase := .erase, page := 63 } where
  generation := by decide
  higher _ _ h := absurd h (by simp [committingAt, inMode, State.reset])
  unmarked := by decide +kernel
  programmed h := absurd h (by decide)
  image h := absurd h (by decide)
  marked h := absurd h (by decide)

theorem witness_ActiveBankIsNeverWritten :
    let s := { committingAt .erase 63 with cm := { (committingAt .erase 63).cm with active := some (1, 9) } }
    nvWf s.cm.nv = true ∧ CommitSound s ∧ s.cm.active = some (1, 9) ∧
      ∃ t, exec (.commitErasePageDone (List.replicate 32 0xFF)) s = .next t := by
  intro s
  refine ⟨rfl, ⟨by decide, ?_⟩, rfl, _, rfl⟩
  rintro r hr
  cases hr
  refine ⟨rfl, ?_⟩
  rintro b g h
  cases h
  decide

/-- A part in CONFIG that has committed `cat1` in bank 0 under generation 1. -/
def committed (nv : List Host.Cell) : State :=
  { inMode .config with cm := { (inMode .config).cm with nv := nv, active := some (0, 1) } }

theorem committed_sound (nv : List Host.Cell) (wf : nvWf nv = true) (h0 : classifyBank nv 0 = .valid 1 cat1)
    (h1 : classifyBank nv 1 = .unmarked) : BanksSound (committed nv) where
  canonical := wf
  catalogue := witness_CatalogueImageReadsBack.2
  commit := ⟨by simp [committed, inMode, State.reset], fun r hr => by cases hr⟩
  progress r hr := by cases hr
  active b g h := by cases h; exact ⟨cat1, h0⟩
  newer b g h d g' cat ne hv := by
    cases h
    have one : ∀ d : Bank, d ≠ 0 → d = 1 := by decide
    have := one d ne
    subst this
    exact absurd (hv.symm.trans h1) (by simp)
  none _ h := absurd h (Option.some_ne_none _)
  committed _ _ := ⟨0, 1, rfl, h0⟩
  clean h := absurd (show (committed nv).inService = true from h) Bool.false_ne_true

theorem witness_PowerFailureKeepsCommittedCatalogue :
    ∃ s : State, BanksSound s ∧ s.mc.mode ≠ .boot ∧ s.mc.rst = false ∧ s.cm.active = some (0, 1) :=
  ⟨committed (withImage [] 0 cat1 1),
    committed_sound _ (withImage_wf reset_nv_wf 0 cat1 1) (one_valid 0 1 1 (by decide) (by decide) (by decide)).1
      (one_valid 0 1 1 (by decide) (by decide) (by decide)).2, by decide, rfl, rfl⟩

theorem witness_StepKeepsBanksSound : ∃ s t : State, BanksSound s ∧ step s = .next t :=
  ⟨_, _, committed_sound _ (withImage_wf reset_nv_wf 0 cat1 1) (one_valid 0 1 1 (by decide) (by decide) (by decide)).1
    (one_valid 0 1 1 (by decide) (by decide) (by decide)).2, rfl⟩

theorem witness_CommandsAreRefused :
    (∀ (m : Mode) (code x y : Byte),
      let s := commanded (inMode m) [code, x, y]
      Ready s code ∧ s.mc.mode = m ∧ arg s 0 = x ∧ arg s 1 = y ∧ s.cu.catalogue.clients[(2 : Slot)].enabled = false) ∧
      (let s := commanded { inMode .config with cu := { (inMode .config).cu with freeze := true } } [0x19]
       Ready s 0x19#8 ∧ s.cu.freeze = true) ∧
      (let s := { committingAt .erase 63 with si := (commanded (inMode .config) [0x13]).si }
       Ready s 0x13#8 ∧ s.mc.mode = .config ∧ s.cu.freeze = false ∧ s.cm.commit ≠ none) :=
  ⟨fun _ code x y => ⟨(commanded_ready rfl code x y).1, rfl, (commanded_ready rfl code x y).2.1,
    (commanded_ready rfl code x y).2.2, show cat1.clients[(2 : Slot)].enabled = false by decide +kernel⟩, by decide +kernel, by decide +kernel⟩

/-- FREEZE has been taken and decided, and the transaction stands at EXECUTE again. -/
def decidedFreeze : State := (after .freeze (commanded (inMode .serving) [0x18])).setPort (.writing 0x29)

theorem witness_OverrunIsFlaggedUntilRead :
    decidedFreeze.si.port = .writing 0x29#7 ∧ decidedFreeze.mailboxBusy = true ∧
      decidedFreeze.si.mailbox = .busy decidedFreeze.si.commandBlock (some { result := .doneOk, contents := [] }) ∧
      (decidedFreeze.setPort (.reading 0x01)).si.port = .reading 0x01#7 ∧ decidedFreeze.mc.rst = false ∧
      (let s := commanded (inMode .config) [0x44, 1]; Ready s 0x44#8 ∧ s.mc.mode ≠ .boot ∧ (arg s 0).toNat < 2) ∧
      ∀ a ∈ [(0x01 : PortAddress), 0x7F, 0x02],
        let s := decidedFreeze.overrunWrite.setPort (.reading a)
        s.si.port = .reading a ∧ s.si.overrun = true ∧ (after .readStatus1 s).si.overrun = false ∧
          (after .readLeaseClockLatch s).si.overrun = decide (a = 0x02) := by
  decide +kernel

theorem witness_MailboxPublishesResponses :
    (let s := commanded (inMode .serving) [0x00]
     s.si.port = .writing 0x29#7 ∧ s.mailboxBusy = false ∧ s.si.commandBlock[0] ∉ codesInUse) ∧
      (decidedFreeze.si.mailbox = .busy decidedFreeze.si.commandBlock (some { result := .doneOk, contents := [] }) ∧
        decidedFreeze.si.port ≠ .inactive ∧ (decidedFreeze.setPort .inactive).si.port = .inactive ∧
        decidedFreeze.mc.rst = false) ∧
      ((inMode .serving).setPort (.reading 0x2A)).si.port = .reading 0x2A#7 ∧
      (∀ copy r, (inMode .serving).si.mailbox ≠ .busy copy (some r)) := by
  refine ⟨by decide +kernel, by decide +kernel, rfl, ?_⟩
  intro copy r h
  simp [inMode, State.reset] at h

theorem witness_TransactionsReadAndWriteWindow :
    ((inMode .serving).mc.rst = false ∧ (inMode .serving).si.port = .inactive ∧
      ∀ copy r, (inMode .serving).si.mailbox ≠ .busy copy (some r)) ∧
      (∀ a : PortAddress, ((inMode .serving).setPort (.writing a)).si.port = .writing a ∧
        ((inMode .serving).setPort (.reading a)).si.port = .reading a) ∧
      (after .lineReset (inMode .serving)).mc.rst = true ∧
      ((inMode .serving).setPort .inert).si.port ≠ .inactive ∧ (∀ a, (inMode .serving).si.port ≠ .reading a) ∧
      (0x07 : PortAddress).toNat < 0x08 ∧ 0x2A ≤ (0x2A : PortAddress).toNat ∧ 0x2A ≤ (0x7F : PortAddress).toNat := by
  refine ⟨⟨rfl, rfl, ?_⟩, fun _ => ⟨rfl, rfl⟩, by decide +kernel, by decide, fun _ h => Port.noConfusion h, by decide, by decide, by decide⟩
  intro copy r h
  simp [inMode, State.reset] at h

/-- A read of the result byte that begins at 7FH goes on from 00H and takes overrun flag and latch on its way (R143, R144). -/
theorem test_read_wraps :
    let s := after .readResultByte ({ decidedFreeze with lt := { decidedFreeze.lt with clock := 0x01020304 } }.overrunWrite.setPort
      (.reading 0x7F))
    s.si.port = .reading 0x2B ∧ s.si.overrun = false ∧ s.si.latch = 0x01020304 ∧ s.si.sdo = some 0 := by decide +kernel

theorem witness_StepKeepsFlagsSound :
    AttentionSetSound fullOutbox ∧ OutboxesSound fullOutbox ∧ HoldReasons fullOutbox ∧ LineFollowsStopin fullOutbox ∧
      ∃ t, step fullOutbox = .next t := by
  refine ⟨by unfold AttentionSetSound; decide, ?_, by unfold HoldReasons; decide, by unfold LineFollowsStopin; decide, _, rfl⟩
  intro c
  have small : ∀ l : List Notice, l = fullOutbox.ct[c].outbox → l.length ≤ 8 ∧
      ∀ (i : Nat) (h : i < l.length), l[i].seq = fullOutbox.ct[c].nextNotice - BitVec.ofNat 8 (l.length - i) := by
    intro l hl
    by_cases h : c = 0
    · subst h
      have all : fullOutbox.ct[(0 : Slot)].outbox.length = 8 ∧ ∀ i : Fin 8,
          (fullOutbox.ct[(0 : Slot)].outbox[i.val]?.map fun n => n.seq) =
            some (fullOutbox.ct[(0 : Slot)].nextNotice - BitVec.ofNat 8 (8 - i.val)) := by decide +kernel
      rw [← hl] at all
      refine ⟨by omega, fun i hi => ?_⟩
      have := all.2 ⟨i, by omega⟩
      rw [List.getElem?_eq_getElem hi] at this
      simpa [all.1] using this
    · have other : ∀ d : Slot, d ≠ 0 → fullOutbox.ct[d].outbox = [] := by decide +kernel
      rw [other c h] at hl
      subst hl
      simp
  exact small _ rfl

/-! ### A lease in service obeys the laws -/

theorem leased_bundle {b : BundleId} {y : Bundle} (h : (leased .serving).ge.bundles[b] = some y) : b = 0 ∧ y = bundle0 := by
  have none : ∀ d : BundleId, d ≠ 0 → (leased .serving).ge.bundles[d] = none := by decide +kernel
  by_cases hb : b = 0
  · subst hb
    have : some bundle0 = some y := (by decide +kernel : some bundle0 = _).trans h
    exact ⟨rfl, (Option.some.inj this).symm⟩
  · rw [none b hb] at h
    cases h

theorem leased_sound : LeasesSound (leased .serving) where
  units := ⟨by decide +kernel, by decide +kernel, by decide +kernel⟩
  bundles :=
    { zones := fun b y h => by obtain ⟨rfl, rfl⟩ := leased_bundle h; decide
      allowed := fun b y h => by obtain ⟨rfl, rfl⟩ := leased_bundle h; unfold MayLease; decide +kernel
      apart := fun b b' y y' h h' _ ne => absurd ((leased_bundle h).1.trans (leased_bundle h').1.symm) ne
      limit := by decide +kernel }
  entries :=
    { one := by decide
      zones := fun _ h => by simp [leased, joined, inMode, State.setClient, State.reset] at h
      allowed := fun _ h => by simp [leased, joined, inMode, State.setClient, State.reset] at h
      apart := fun _ h => by simp [leased, joined, inMode, State.setClient, State.reset] at h
      joined := fun _ h => by simp [leased, joined, inMode, State.setClient, State.reset] at h
      room := fun _ h => by simp [leased, joined, inMode, State.setClient, State.reset] at h }
  clients :=
    { out := by decide +kernel, barred := by decide +kernel, session := by decide +kernel, unused := by decide +kernel
      stopped := fun h => absurd h (by decide) }
  queue := by unfold QueueHoldsBundles; decide +kernel
  tokens := fun b y h => by
    obtain ⟨rfl, rfl⟩ := leased_bundle h
    exact ⟨by decide, fun b' y' h' _ => (leased_bundle h').1⟩
  empty := fun h => absurd h (by decide)

theorem witness_StepKeepsLeasesSound :
    LeasesSound (leased .serving) ∧ HeadBlocked (leased .serving) ∧ ∃ t, step (leased .serving) = .next t :=
  ⟨leased_sound, fun _ e h => by simp [leased, joined, inMode, State.setClient, State.reset] at h, _, rfl⟩

end Sys2Proof.Tests
end

/-! The outboxes of the clients: what an acknowledgement removes (R104) and how a notice joins (R102, R103). -/

namespace Sys2Proof.Machine

open Sys2Proof.Claim

/-! ### The conditions of Client Table and Exchange Scheduler as propositions -/

/-- The test of R102 is the condition the statements are written with. -/
theorem takesNotices_iff {s : State} {c : Slot} : s.takesNotices c = true ↔ TakesNotices s c := by
  simp [State.takesNotices, State.inUse, TakesNotices]

/-- The test of R140 is the condition the statements are written with. -/
theorem exchangeStands_iff {s : State} {x : Exchange} : s.exchangeStands x = true ↔ Stands s x := by
  simp [State.exchangeStands, State.inUse, State.addressOf, Stands, and_assoc]

/-! ### Acknowledgements (R104) -/

/-- The oldest notice with the acknowledged number goes, with everything before it. -/
theorem acknowledge_append_cons {n : Byte} {old rest : List Notice} {y : Notice} (hy : y.seq = n)
    (hold : ∀ o ∈ old, o.seq ≠ n) : acknowledge n (old ++ y :: rest) = rest := by
  have present : (old ++ y :: rest).any (fun x => x.seq == n) = true := by simp [hy]
  have stops : (old ++ y :: rest).dropWhile (fun x => !(x.seq == n)) = y :: rest := by
    rw [List.dropWhile_append_of_pos (by simpa using hold)]
    simp [hy]
  rw [acknowledge, if_pos present, stops, List.tail_cons]

/-- An acknowledgement of a number that no notice carries removes nothing. -/
theorem acknowledge_of_absent {n : Byte} {l : List Notice} (h : ∀ y ∈ l, y.seq ≠ n) : acknowledge n l = l := by
  have absent : ¬ l.any (fun x => x.seq == n) = true := by simpa using h
  rw [acknowledge, if_neg absent]

/-! ### A reply that is heard -/

/-- Of a client's outbox a valid reply with an acknowledgement takes what that removes, and nothing else (R88). -/
theorem heard_some_outbox (s : State) (x : Exchange) (n : Byte) :
    (heard s x (some n)).ct[x.target].outbox = acknowledge n s.ct[x.target].outbox := by
  rw [heard, acceptReply_eq]
  simp only [Fin.getElem_fin, Vector.getElem_set_self]

/-- A valid reply without an acknowledgement leaves the outbox as it was (R88). -/
theorem heard_none_outbox (s : State) (x : Exchange) : (heard s x none).ct[x.target].outbox = s.ct[x.target].outbox := by
  rw [heard, acceptReply_eq]
  simp only [Fin.getElem_fin, Vector.getElem_set_self]

/-- An IDLE of the client that the exchange was begun with is heard, and the exchange ends (R136). -/
theorem exec_idle_of_awaits {s : State} {x : Exchange} {w : Nat} {d : Bool} (h : Awaits s x w d) (ack : Option Byte) :
    exec (.idle ack) s = .next (inGap (heard s x ack)) := by
  obtain ⟨awaiting, stands⟩ := h
  have delivered : s.deliverReply (.idle ack) = inGap (heard s x ack) := by
    rw [deliverReply_awaiting s awaiting]
    exact if_pos (exchangeStands_iff.mpr stands)
  exact congrArg Host.Outcome.next delivered

/-- What a reply leaves in the outbox, an IDLE leaves there. -/
theorem idle_outbox {s : State} {x : Exchange} {w : Nat} {d : Bool} {ack : Option Byte} {l : List Notice}
    (h : (heard s x ack).ct[x.target].outbox = l) (awaits : Awaits s x w d) :
    ∃ t, exec (.idle ack) s = .next t ∧ t.ct[x.target].outbox = l :=
  ⟨inGap (heard s x ack), exec_idle_of_awaits awaits ack, h⟩

/-! ### Posting a notice (R102, R103) -/

/-- A notice joins an outbox that has room. -/
theorem postNotice_of_room {s : State} {c : Slot} (takes : TakesNotices s c) (room : s.ct[c].outbox.length < 8)
    (body : NoticeBody) : s.postNotice c body = s.setClient c (s.ct[c].append body) := by
  rw [State.postNotice, if_pos (takesNotices_iff.mpr takes), if_pos room]

/-- A notice to a full outbox leaves a single RESYNC in its place, and RESYNC is posted. -/
theorem postNotice_of_full {s : State} {c : Slot} (takes : TakesNotices s c) (full : 8 ≤ s.ct[c].outbox.length)
    (body : NoticeBody) : s.postNotice c body = (s.setClient c s.ct[c].resync).postAttention (.resync c) := by
  rw [State.postNotice, if_pos (takesNotices_iff.mpr takes), if_neg (Nat.not_lt.mpr full)]

/-- A notice to a client that takes none is discarded. -/
theorem postNotice_of_not_takesNotices {s : State} {c : Slot} (h : ¬ TakesNotices s c) (body : NoticeBody) :
    s.postNotice c body = s := by
  rw [State.postNotice, if_neg (mt takesNotices_iff.mp h)]

/-! ### The obligations -/

/-- Settles O23, from what an acknowledgement does to a list and the outbox that a heard reply leaves. -/
theorem acknowledgementEmptiesOutbox : Obligations.AcknowledgementEmptiesOutbox := by
  unfold Obligations.AcknowledgementEmptiesOutbox
  intro s x box
  have box_of_heard {ack : Option Byte} {l : List Notice} (h : (heard s x ack).ct[x.target].outbox = l) : box ack l :=
    ⟨h, fun _ _ => idle_outbox h⟩
  refine ⟨?present, ?absent, box_of_heard (heard_none_outbox s x)⟩
  case present =>
    intro n old y rest split hy hold
    apply box_of_heard
    calc (heard s x (some n)).ct[x.target].outbox
        = acknowledge n s.ct[x.target].outbox := heard_some_outbox s x n
      _ = acknowledge n (old ++ y :: rest) := by rw [split]
      _ = rest := acknowledge_append_cons hy hold
  case absent =>
    intro n h
    exact box_of_heard ((heard_some_outbox s x n).trans (acknowledge_of_absent h))

/-- Settles O40, one case for an outbox with room, one for a full outbox and one for a client that takes no notices. -/
theorem noticesJoinOutbox : Obligations.NoticesJoinOutbox := by
  unfold Obligations.NoticesJoinOutbox
  intro s c body
  exact ⟨fun takes room => postNotice_of_room takes room body, fun takes full => postNotice_of_full takes full body,
    fun other => postNotice_of_not_takesNotices other body⟩

end Sys2Proof.Machine

/-! HOLD and RESUME: what a command that stands ready at EXECUTE becomes, how a change of hold reason COMMAND moves the mode, and the
status byte that is answered (R179, R181). -/

namespace Sys2Proof.Machine

open Sys2Proof.Claim

/-! ### A command that stands ready at EXECUTE (R147) -/

/-- The owner of a command that stands ready decides it in the state that has taken it. -/
theorem execute_of_ready {s : State} {code : Byte} {decision : Block → State → State} (ready : Ready s code) :
    s.execute code decision = decision s.si.commandBlock (taken s) := by
  obtain ⟨port, free, block⟩ := ready
  exact execute_taken s port free block

/-- A response given while the port stands as the taken command left it decides that command. -/
theorem respond_eq_decided {s t : State} (port : t.si = (taken s).si) (result : Result) (contents : List Byte) :
    t.respond result contents = decided s t result contents := by
  have mailbox : t.si.mailbox = .busy s.si.commandBlock none := by rw [port]; rfl
  rw [respond_busy t mailbox, port]
  rfl

theorem served_of_hold {s : State} (mode : s.mc.mode = .hold) : served s = true := by simp [served, mode]

theorem served_of_serving {s : State} (mode : s.mc.mode = .serving) : served s = true := by simp [served, mode]

/-- In BOOT and CONFIG a command that only SERVING and HOLD accept is refused (Table 8-2). -/
theorem checkInService_taken_refused {s : State} (mode : s.mc.mode = .boot ∨ s.mc.mode = .config) (accepted : State) :
    (taken s).checkInService accepted = refusedWith s .wrongMode [] := by
  have out : ¬ (taken s).inService = true := by
    obtain boot | config := mode
    · simp [State.inService, taken, boot]
    · simp [State.inService, taken, config]
  rw [State.checkInService, if_neg out]
  exact respond_eq_decided rfl .wrongMode []

/-! ### Hold reason COMMAND and the mode (R181) -/

/-- With a hold reason present the mode is HOLD. -/
theorem setCommand_of_reason (s : State) {present : Bool} (reason : present = true ∨ s.mc.holdLine = true) :
    s.setCommand present = { s with mc := { s.mc with holdCommand := present, mode := .hold } } :=
  if_pos reason

/-- When the last reason is removed in HOLD the mode becomes SERVING, and one grant scan runs. -/
theorem setCommand_of_last {s : State} (mode : s.mc.mode = .hold) (line : s.mc.holdLine = false) :
    s.setCommand false = { s with mc := { s.mc with holdCommand := false, mode := .serving } }.requestScan := by
  simp [State.setCommand, State.followReasons, mode, line]

/-- In SERVING a removal of the reason moves no mode. -/
theorem setCommand_of_serving {s : State} (mode : s.mc.mode = .serving) (line : s.mc.holdLine = false) :
    s.setCommand false = { s with mc := { s.mc with holdCommand := false } } := by
  simp [State.setCommand, State.followReasons, mode, line]

theorem setCommand_si (s : State) (present : Bool) : (s.setCommand present).si = s.si := by
  unfold State.setCommand State.followReasons
  split
  · rfl
  · split
    · exact requestScan_si _
    · rfl

/-! ### The status byte of HOLD and SERVING (Table 11-8) -/

theorem status0_hold_command {s : State} (mode : s.mc.mode = .hold) (command : s.mc.holdCommand = true) :
    s.status0 = if s.mc.holdLine then 0x33#8 else 0x13#8 := by
  cases line : s.mc.holdLine
  · rw [State.status0, mode, command, line]; decide
  · rw [State.status0, mode, command, line]; decide

theorem status0_hold_line {s : State} (mode : s.mc.mode = .hold) (command : s.mc.holdCommand = false)
    (line : s.mc.holdLine = true) : s.status0 = 0x23#8 := by
  rw [State.status0, mode, command, line]; decide

theorem status0_serving {s : State} (mode : s.mc.mode = .serving) (command : s.mc.holdCommand = false)
    (line : s.mc.holdLine = false) : s.status0 = 0x02#8 := by
  rw [State.status0, mode, command, line]; decide

/-- A grant scan leaves the mode and the hold reasons, so the status byte too. -/
theorem status0_requestScan (s : State) : s.requestScan.status0 = s.status0 := by
  rw [State.status0, (requestScan_tables s).mc, State.status0]

/-! ### HOLD and RESUME -/

theorem exec_hold_of_ready {s : State} (ready : Ready s 0x42#8) :
    exec .hold s = .next (decideHold s.si.commandBlock (taken s)) :=
  congrArg Host.Outcome.next (execute_of_ready ready)

theorem exec_resume_of_ready {s : State} (ready : Ready s 0x43#8) :
    exec .resume s = .next (decideResume s.si.commandBlock (taken s)) :=
  congrArg Host.Outcome.next (execute_of_ready ready)

/-- Accepted, HOLD and RESUME answer the status byte of the state `t` that the change of reason COMMAND leads to. -/
theorem checkInService_setCommand {s t : State} {present : Bool} {status : Byte} (mode : served s = true)
    (change : (taken s).setCommand present = t) (answer : t.status0 = status) :
    (taken s).checkInService (((taken s).setCommand present).respond .doneOk [((taken s).setCommand present).status0]) =
      decided s t .doneOk [status] := by
  have inService : (taken s).inService = true := mode
  have port : t.si = (taken s).si := change ▸ setCommand_si (taken s) present
  rw [State.checkInService, if_pos inService, change, answer, respond_eq_decided port]

theorem exec_hold_of_served {s t : State} {status : Byte} (ready : Ready s 0x42#8) (mode : served s = true)
    (change : (taken s).setCommand true = t) (answer : t.status0 = status) :
    exec .hold s = .next (decided s t .doneOk [status]) :=
  (exec_hold_of_ready ready).trans (congrArg Host.Outcome.next (checkInService_setCommand mode change answer))

theorem exec_resume_of_served {s t : State} {status : Byte} (ready : Ready s 0x43#8) (mode : served s = true)
    (change : (taken s).setCommand false = t) (answer : t.status0 = status) :
    exec .resume s = .next (decided s t .doneOk [status]) :=
  (exec_resume_of_ready ready).trans (congrArg Host.Outcome.next (checkInService_setCommand mode change answer))

/-- Settles O11, one case for each way hold reason COMMAND can move the mode and one for the modes that refuse. Where `accepted` is named,
it speaks of the state that has taken the command: `decided` sets the port and the mailbox anew, so that it is the same statement. -/
theorem holdAndResume : Obligations.HoldAndResume := by
  unfold Obligations.HoldAndResume
  refine ⟨?refused, ?hold, ?lineRemains, ?lastReason, ?serving⟩
  case refused =>
    intro s mode
    exact ⟨fun ready => (exec_hold_of_ready ready).trans (congrArg _ (checkInService_taken_refused mode _)),
      fun ready => (exec_resume_of_ready ready).trans (congrArg _ (checkInService_taken_refused mode _))⟩
  case hold =>
    intro s ready mode
    have accepted := exec_hold_of_served ready mode (setCommand_of_reason (taken s) (.inl rfl)) (status0_hold_command rfl rfl)
    exact accepted
  case lineRemains =>
    intro s ready mode line
    have accepted := exec_resume_of_served ready mode (setCommand_of_reason (taken s) (.inr line)) (status0_hold_line rfl rfl line)
    exact accepted
  case lastReason =>
    intro s ready mode line
    exact exec_resume_of_served ready (served_of_hold mode) (setCommand_of_last (s := taken s) mode line)
      ((status0_requestScan _).trans (status0_serving rfl rfl line))
  case serving =>
    intro s ready mode line
    have accepted := exec_resume_of_served ready (served_of_serving mode) (setCommand_of_serving (s := taken s) mode line)
      (status0_serving mode rfl line)
    exact accepted

end Sys2Proof.Machine

/-! The rules of the bundle table, the zone table and the expiry queue: what a write to a table leaves, where an insertion puts a bundle
(R70), which token a new bundle takes (R25), and what the creation, the end and the release of a bundle change (R26 to R28). -/

namespace Sys2Proof.Machine

open Sys2Proof.Claim

/-! ### Tables -/

/-- A table after a write: the value written in its place, and every other value as before. -/
theorem vector_get_set {α : Type} {n : Nat} (v : Vector α n) (i j : Fin n) (x : α) :
    (v.set i x)[j] = if j = i then x else v[j] := by
  simp only [Fin.getElem_fin, Vector.getElem_set, Fin.ext_iff, eq_comm]

/-- Two tables with the same values in every place are the same. -/
theorem vector_ext_fin {α : Type} {n : Nat} {v w : Vector α n} (h : ∀ i : Fin n, v[i] = w[i]) : v = w :=
  Vector.ext fun i hi => h ⟨i, hi⟩

@[simp] theorem vector_get_ofFn {α : Type} {n : Nat} (f : Fin n → α) (i : Fin n) : (Vector.ofFn f)[i] = f i := by
  simp

/-- The deadline of a bundle, in the words of the statements. -/
theorem deadlineOf_eq (s : State) : s.deadlineOf = deadlineIn s.ge.bundles := rfl

/-! ### The expiry queue (R68, R70) -/

/-- An insertion adds the bundle and nothing else. -/
theorem insertByDeadline_perm (deadline : BundleId → Word) (b : BundleId) (queue : List BundleId) :
    (insertByDeadline deadline b queue).Perm (b :: queue) := by
  induction queue with
  | nil => exact .refl _
  | cons x rest ih =>
    unfold insertByDeadline
    split
    · exact (ih.cons x).trans (.swap b x rest)
    · exact .refl _

theorem mem_insertByDeadline {deadline : BundleId → Word} {b d : BundleId} {queue : List BundleId} :
    d ∈ insertByDeadline deadline b queue ↔ d = b ∨ d ∈ queue := by
  rw [(insertByDeadline_perm deadline b queue).mem_iff, List.mem_cons]

/-- The bundles that stand in the queue keep their order. -/
theorem sublist_insertByDeadline (deadline : BundleId → Word) (b : BundleId) (queue : List BundleId) :
    queue.Sublist (insertByDeadline deadline b queue) := by
  induction queue with
  | nil => exact List.nil_sublist _
  | cons x rest ih =>
    unfold insertByDeadline
    split
    · exact ih.cons_cons x
    · exact List.sublist_cons_self _ _

/-- The test of an insertion, for two deadlines within half the range of a base. -/
theorem goesBehind_iff {base d e : Word} (hd : (d - base).toNat < 2 ^ 31) (he : (e - base).toNat < 2 ^ 31) :
    (d = e ∨ isEarlier d e = true) ↔ (d - base).toNat ≤ (e - base).toNat := by
  simp only [isEarlier, decide_eq_true_eq]
  bv_omega

theorem earlier_distance {base d e : Word} (hd : (d - base).toNat < 2 ^ 31) (he : (e - base).toNat < 2 ^ 31)
    (h : (d - base).toNat < (e - base).toNat) : 1 ≤ (e - d).toNat ∧ (e - d).toNat < 2 ^ 31 := by
  bv_omega

/-- Where an insertion into an ordered queue puts the bundle. -/
theorem insertByDeadline_split {deadline : BundleId → Word} {base : Word} {b : BundleId} (queue : List BundleId)
    (range : ∀ x ∈ b :: queue, (deadline x - base).toNat < 2 ^ 31)
    (sorted : queue.Pairwise fun x y => (deadline x - base).toNat ≤ (deadline y - base).toNat) :
    ∃ front back : List BundleId, queue = front ++ back ∧ insertByDeadline deadline b queue = front ++ b :: back ∧
      (∀ x ∈ front, (deadline x - base).toNat ≤ (deadline b - base).toNat) ∧
      ∀ y ∈ back, (deadline b - base).toNat < (deadline y - base).toNat := by
  induction queue with
  | nil => exact ⟨[], [], rfl, rfl, by simp, by simp⟩
  | cons x rest ih =>
    have hb := range b (by simp)
    have hx := range x (by simp)
    obtain ⟨first, others⟩ := List.pairwise_cons.1 sorted
    by_cases behind : (deadline x - base).toNat ≤ (deadline b - base).toNat
    · obtain ⟨front, back, hq, hi, hf, hl⟩ := ih (fun y hy => range y (by simp at hy ⊢; tauto)) others
      refine ⟨x :: front, back, by rw [hq, List.cons_append], ?_, ?_, hl⟩
      · rw [insertByDeadline, if_pos ((goesBehind_iff hx hb).2 behind), hi, List.cons_append]
      · exact List.forall_mem_cons.2 ⟨behind, hf⟩
    · refine ⟨[], x :: rest, rfl, ?_, by simp, ?_⟩
      · rw [insertByDeadline, if_neg (mt (goesBehind_iff hx hb).1 behind)]
        rfl
      · exact List.forall_mem_cons.2 ⟨by omega, fun y hy => by have := first y hy; omega⟩

/-- Settles O9, from the place that the insertion takes in the ordered queue. -/
theorem insertionKeepsDeadlineOrder : Obligations.InsertionKeepsDeadlineOrder := by
  unfold Obligations.InsertionKeepsDeadlineOrder
  intro deadline base b queue range sorted
  obtain ⟨front, back, hq, hi, hf, hl⟩ := insertByDeadline_split queue range sorted
  have hb := range b (by simp)
  have inFront : ∀ x ∈ front, (deadline x - base).toNat < 2 ^ 31 := fun x hx => range x (by simp [hq, hx])
  have inBack : ∀ y ∈ back, (deadline y - base).toNat < 2 ^ 31 := fun y hy => range y (by simp [hq, hy])
  refine ⟨front, back, hq, hi, fun x hx => ?front, fun y hy => earlier_distance hb (inBack y hy) (hl y hy), ?order⟩
  case front =>
    obtain same | earlier := (goesBehind_iff (inFront x hx) hb).2 (hf x hx)
    · exact .inl same
    · simp only [isEarlier, decide_eq_true_eq] at earlier
      exact .inr ⟨earlier.1, by omega⟩
  case order =>
    subst hq
    rw [List.pairwise_append] at sorted ⊢
    obtain ⟨sf, sb, cross⟩ := sorted
    refine ⟨sf, List.pairwise_cons.2 ⟨fun y hy => (hl y hy).le, sb⟩, fun x hx => ?_⟩
    exact List.forall_mem_cons.2 ⟨hf x hx, cross x hx⟩

/-! ### Tokens (R25) -/

theorem tokenLive_iff {s : State} {token : Half} : s.tokenLive token = true ↔ ¬ TokenFree s token := by
  simp only [State.tokenLive, List.any_eq_true, TokenFree, not_forall, Classical.not_not, Vector.mem_toList_iff, Vector.mem_iff_getElem]
  constructor
  · rintro ⟨x, ⟨i, hi, rfl⟩, h⟩
    cases hx : s.ge.bundles[i] with
    | none => simp [hx] at h
    | some y => exact ⟨⟨i, hi⟩, y, hx, by simpa [hx] using h⟩
  · rintro ⟨b, y, hb, rfl⟩
    exact ⟨some y, ⟨b.val, b.isLt, hb⟩, by simp⟩

/-- The examination stops at the first value that passes. -/
theorem findToken_eq {live : Half → Bool} (n : Nat) : ∀ (token : Half) (k : Nat), k < n →
    (∀ j < k, token + BitVec.ofNat 16 j = 0#16 ∨ live (token + BitVec.ofNat 16 j) = true) →
    ¬ (token + BitVec.ofNat 16 k = 0#16 ∨ live (token + BitVec.ofNat 16 k) = true) →
    findToken live n token = token + BitVec.ofNat 16 k := by
  induction n with
  | zero => exact fun _ k hk => absurd hk (Nat.not_lt_zero k)
  | succ n ih =>
    intro token k hk before passes
    have next : ∀ j, token + 1#16 + BitVec.ofNat 16 j = token + BitVec.ofNat 16 (j + 1) := fun j => by
      rw [BitVec.add_assoc, ← BitVec.ofNat_add, Nat.add_comm]
    cases k with
    | zero =>
      rw [show token + BitVec.ofNat 16 0 = token by simp] at passes ⊢
      rw [findToken, if_neg passes]
    | succ k =>
      have first := before 0 (by omega)
      rw [show token + BitVec.ofNat 16 0 = token by simp] at first
      rw [findToken, if_pos first, ih (token + 1#16) k (by omega) (fun j hj => next j ▸ before (j + 1) (by omega)) (next k ▸ passes), next]

/-- Among 66 successive values one is neither 0 nor one of 64 tokens. -/
theorem exists_token_outside (token : Half) (carried : BundleId → Half) :
    ∃ k < 66, token + BitVec.ofNat 16 k ≠ 0#16 ∧ ∀ b, carried b ≠ token + BitVec.ofNat 16 k := by
  by_contra nothing
  push Not at nothing
  have all : ∀ k ∈ Finset.range 66, token + BitVec.ofNat 16 k ∈ insert 0#16 (Finset.univ.image carried) := by
    intro k hk
    rw [Finset.mem_insert, Finset.mem_image]
    by_cases zero : token + BitVec.ofNat 16 k = 0#16
    · exact .inl zero
    · obtain ⟨b, hb⟩ := nothing k (Finset.mem_range.1 hk) zero
      exact .inr ⟨b, Finset.mem_univ b, hb⟩
  have few : (insert 0#16 (Finset.univ.image carried)).card < (Finset.range 66).card :=
    calc (insert 0#16 (Finset.univ.image carried)).card
        ≤ (Finset.univ.image carried).card + 1 := Finset.card_insert_le _ _
      _ ≤ (Finset.univ : Finset BundleId).card + 1 := Nat.add_le_add_right Finset.card_image_le 1
      _ = 65 := by rw [Finset.card_univ, Fintype.card_fin]
      _ < (Finset.range 66).card := by rw [Finset.card_range]; omega
  obtain ⟨i, hi, j, hj, ne, eq⟩ := Finset.exists_ne_map_eq_of_card_lt_of_maps_to few all
  rw [Finset.mem_range] at hi hj
  apply ne
  bv_omega

/-- The token of the bundle in a slot; 0, which no bundle carries, for an empty slot. -/
def tokenIn (s : State) (b : BundleId) : Half := (s.ge.bundles[b].map fun y => y.token).getD 0#16

/-- Among 66 successive values one passes the examination. -/
theorem exists_passing_token (s : State) (token : Half) :
    ∃ k < 66, ¬ (token + BitVec.ofNat 16 k = 0#16 ∨ s.tokenLive (token + BitVec.ofNat 16 k) = true) := by
  obtain ⟨k, hk, zero, other⟩ := exists_token_outside token (tokenIn s)
  refine ⟨k, hk, not_or.2 ⟨zero, fun live => tokenLive_iff.1 live fun b y hb => ?_⟩⟩
  have := other b
  rwa [tokenIn, hb] at this

/-- The token of the next bundle is the first value from the counter on that passes, found within 66 examinations. -/
theorem nextToken_spec (s : State) : ∃ k < 66, s.nextToken = s.ge.tokenCounter + BitVec.ofNat 16 k ∧ s.nextToken ≠ 0#16 ∧
    TokenFree s s.nextToken ∧
    ∀ j < k, s.ge.tokenCounter + BitVec.ofNat 16 j = 0#16 ∨ ¬ TokenFree s (s.ge.tokenCounter + BitVec.ofNat 16 j) := by
  classical
  have found := exists_passing_token s s.ge.tokenCounter
  obtain ⟨hk, passes⟩ := Nat.find_spec found
  have before : ∀ j < Nat.find found, s.ge.tokenCounter + BitVec.ofNat 16 j = 0#16 ∨
      s.tokenLive (s.ge.tokenCounter + BitVec.ofNat 16 j) = true := by
    intro j hj
    by_contra h
    exact Nat.find_min found hj ⟨by omega, h⟩
  have eq : s.nextToken = s.ge.tokenCounter + BitVec.ofNat 16 (Nat.find found) :=
    findToken_eq 66 _ _ hk before passes
  rw [not_or] at passes
  refine ⟨Nat.find found, hk, eq, eq ▸ passes.1, ?_, fun j hj => (before j hj).imp_right tokenLive_iff.1⟩
  rw [eq]
  by_contra taken
  exact passes.2 (tokenLive_iff.2 taken)

theorem nextToken_ne_zero (s : State) : s.nextToken ≠ 0#16 := by
  obtain ⟨_, _, _, h, _⟩ := nextToken_spec s
  exact h

theorem nextToken_free (s : State) : TokenFree s s.nextToken := by
  obtain ⟨_, _, _, _, h, _⟩ := nextToken_spec s
  exact h

end Sys2Proof.Machine

/-! What the creation, the end and the release of a bundle change, each as one record update (R26 to R28). -/

namespace Sys2Proof.Machine

open Sys2Proof.Claim

/-! ### A run over zones -/

/-- One zone of a run: its record is changed, and FENCED is posted when the test says so. -/
def tendZone (change : ZoneId → ZoneState → ZoneState) (fenced : ZoneId → ZoneState → Bool) (s : State) (z : ZoneId) : State :=
  { s with
    ge := { s.ge with zones := s.ge.zones.set z (change z s.ge.zones[z]) }
    attn := if fenced z s.ge.zones[z] then s.attn.post (.fenced z) s.lt.clock else s.attn }

/-- A run over distinct zones changes each of them once and posts for each of them once. -/
theorem foldl_tendZone (change : ZoneId → ZoneState → ZoneState) (fenced : ZoneId → ZoneState → Bool) (zs : List ZoneId) :
    ∀ s : State, zs.Nodup → zs.foldl (tendZone change fenced) s =
      { s with
        ge := { s.ge with zones := Vector.ofFn fun z : ZoneId => if z ∈ zs then change z s.ge.zones[z] else s.ge.zones[z] }
        attn := (zs.filter fun z => fenced z s.ge.zones[z]).foldl (fun a z => a.post (.fenced z) s.lt.clock) s.attn } := by
  induction zs with
  | nil =>
    intro s _
    have same : s.ge.zones = Vector.ofFn fun z : ZoneId => s.ge.zones[z] := vector_ext_fin fun z => by simp
    simp [-Fin.getElem_fin, ← same]
  | cons z zs ih =>
    intro s distinct
    obtain ⟨fresh, distinct⟩ := List.nodup_cons.1 distinct
    rw [List.foldl_cons, ih _ distinct]
    have zones : (Vector.ofFn fun y : ZoneId => if y ∈ zs then change y (tendZone change fenced s z).ge.zones[y]
        else (tendZone change fenced s z).ge.zones[y]) =
        Vector.ofFn fun y : ZoneId => if y ∈ z :: zs then change y s.ge.zones[y] else s.ge.zones[y] := by
      refine vector_ext_fin fun y => ?_
      simp only [vector_get_ofFn, tendZone, vector_get_set, List.mem_cons]
      by_cases same : y = z
      · simp [same, fresh]
      · simp [same]
    have posts : (zs.filter fun y => fenced y (tendZone change fenced s z).ge.zones[y]) =
        zs.filter fun y => fenced y s.ge.zones[y] := by
      refine List.filter_congr fun y hy => ?_
      have other : y ≠ z := fun e => fresh (e ▸ hy)
      simp only [tendZone, vector_get_set, if_neg other]
    rw [zones, posts]
    by_cases post : fenced z s.ge.zones[z] = true
    · simp [-Fin.getElem_fin, tendZone, post]
    · simp [-Fin.getElem_fin, tendZone, post]

theorem dropHolder_eq_tendZone (b : BundleId) : (fun (t : State) z => t.dropHolder b z) =
    tendZone (fun _ r => { r with holders := r.holders.erase b }) fun _ _ => false := rfl

theorem disposeZone_eq_tendZone (b : BundleId) (d : ZoneId → ExpiryPolicy) : (fun (t : State) z => t.disposeZone b (d z) z) =
    tendZone (fun z r => { r with holders := r.holders.erase b, fences := r.fences + if d z = .fence then 1 else 0 })
      fun z r => decide (d z = .fence ∧ r.fences = 0) := by
  funext s z
  cases hd : d z with
  | free => simp [tendZone, hd, State.disposeZone, State.dropHolder, State.setZone]
  | fence =>
    by_cases first : s.ge.zones[z].fences = 0
    · simp [-Fin.getElem_fin, tendZone, hd, State.disposeZone, State.fenceUnit, State.setZone, first, State.postAttention]
    · simp [-Fin.getElem_fin, tendZone, hd, State.disposeZone, State.fenceUnit, State.setZone, first]

/-- A bundle id joins the holder list of each zone of a list, once for each time the zone stands in it. -/
theorem foldl_addHolder (b : BundleId) (zs : List ZoneId) : ∀ s : State, zs.foldl (fun t z => t.addHolder b z) s =
    { s with ge := { s.ge with zones := Vector.ofFn fun z : ZoneId =>
      { s.ge.zones[z] with holders := s.ge.zones[z].holders ++ List.replicate (zs.count z) b } } } := by
  induction zs with
  | nil =>
    intro s
    simp
  | cons z zs ih =>
    intro s
    rw [List.foldl_cons, ih]
    have zones : (Vector.ofFn fun y : ZoneId => { (s.addHolder b z).ge.zones[y] with
          holders := (s.addHolder b z).ge.zones[y].holders ++ List.replicate (zs.count y) b }) =
        Vector.ofFn fun y : ZoneId => { s.ge.zones[y] with
          holders := s.ge.zones[y].holders ++ List.replicate ((z :: zs).count y) b } := by
      refine vector_ext_fin fun y => ?_
      simp only [vector_get_ofFn, State.addHolder, setZone_ge, vector_get_set]
      by_cases same : y = z
      · subst same
        simp [List.replicate_succ]
      · simp [same, Ne.symm same]
    rw [zones]
    rfl

/-! ### The creation of a bundle (R26) -/

/-- The zone table after the creation of a bundle. -/
theorem createBundle_eq (s : State) (b : BundleId) (c : Slot) (tag : Byte) (term : Half) (zs : List ZoneId) :
    s.createBundle b c tag term zs =
      let bundles := s.ge.bundles.set b (some (newBundle c tag term zs s.nextToken s.lt.clock))
      { s with
        ge := { s.ge with
          tokenCounter := s.nextToken + 1#16
          bundles := bundles
          zones := Vector.ofFn fun z : ZoneId =>
            { s.ge.zones[z] with holders := s.ge.zones[z].holders ++ List.replicate (zs.count z) b } }
        lt := { s.lt with queue := insertByDeadline (deadlineIn bundles) b s.lt.queue } } := by
  simp only [State.createBundle, foldl_addHolder]
  rfl

/-- Settles O36, from the token that the examination finds and the record update that the creation is. -/
theorem creationFillsBundle : Obligations.CreationFillsBundle := by
  unfold Obligations.CreationFillsBundle
  intro s b c tag term zs _ distinct
  obtain ⟨k, hk, token, zero, free, before⟩ := nextToken_spec s
  refine ⟨k, hk, token, zero, free, before, ?record, fun z => ?zone⟩
  case record =>
    rw [createBundle_eq]
    rfl
  case zone =>
    rw [createBundle_eq]
    simp only [vector_get_ofFn]
    by_cases mem : z ∈ zs
    · rw [if_pos mem, List.count_eq_one_of_mem distinct mem, List.replicate_one]
    · rw [if_neg mem, List.count_eq_zero_of_not_mem mem, List.replicate_zero, List.append_nil]

/-! ### The end of a bundle and the giving up of zones (R27, R28) -/

theorem zonesOfBundle_some {s : State} {b : BundleId} {y : Bundle} (h : s.ge.bundles[b] = some y) :
    s.zonesOfBundle b = y.zones := by
  rw [State.zonesOfBundle, h]

theorem zonesOfBundle_none {s : State} {b : BundleId} (h : s.ge.bundles[b] = none) : s.zonesOfBundle b = [] := by
  rw [State.zonesOfBundle, h]

/-- The end of a bundle, as one record update. -/
theorem endBundle_eq (s : State) (b : BundleId) (d : ZoneId → ExpiryPolicy) (distinct : (s.zonesOfBundle b).Nodup) :
    s.endBundle b d =
      { s with
        ge := { s.ge with
          bundles := s.ge.bundles.set b none
          zones := Vector.ofFn fun z : ZoneId => if z ∈ s.zonesOfBundle b then
            { s.ge.zones[z] with holders := s.ge.zones[z].holders.erase b
                                 fences := s.ge.zones[z].fences + if d z = .fence then 1 else 0 }
            else s.ge.zones[z] }
        lt := { s.lt with queue := s.lt.queue.erase b }
        attn := ((s.zonesOfBundle b).filter fun z => decide (d z = .fence ∧ s.ge.zones[z].fences = 0)).foldl
          (fun a z => a.post (.fenced z) s.lt.clock) s.attn } := by
  rw [State.endBundle, disposeZone_eq_tendZone, foldl_tendZone _ _ _ _ distinct, State.removeBundle, State.setBundle,
    State.dequeueExpiry]

/-- The giving up of zones of a bundle, as one record update. -/
theorem giveUpZones_eq (s : State) (b : BundleId) (y : Bundle) (given : List ZoneId) (distinct : given.Nodup) :
    s.giveUpZones b y given =
      let left := y.zones.filter fun z => decide (z ∉ given)
      { s with
        ge := { s.ge with
          bundles := s.ge.bundles.set b (if left = [] then none else some { y with zones := left })
          zones := Vector.ofFn fun z : ZoneId => if z ∈ given then
            { s.ge.zones[z] with holders := s.ge.zones[z].holders.erase b } else s.ge.zones[z] }
        lt := { s.lt with queue := if left = [] then s.lt.queue.erase b else s.lt.queue } } := by
  have left : (y.zones.filter fun z => !decide (z ∈ given)) = y.zones.filter fun z => decide (z ∉ given) :=
    List.filter_congr fun z _ => by simp
  simp only [State.giveUpZones, dropHolder_eq_tendZone, foldl_tendZone _ _ _ _ distinct, left]
  split
  · simp [State.removeBundle, State.setBundle, State.dequeueExpiry]
  · simp [State.setBundle]

/-- Settles O37, from the record updates that an end and a giving up are. -/
theorem endsAndReleasesFreeTheirUnits : Obligations.EndsAndReleasesFreeTheirUnits := by
  unfold Obligations.EndsAndReleasesFreeTheirUnits
  intro s b y hb distinct
  have zones := zonesOfBundle_some hb
  refine ⟨fun d => ?ended, fun given distinct => ?given⟩
  case ended =>
    rw [endBundle_eq s b d (zones ▸ distinct), zones]
    exact ⟨rfl, fun z => vector_get_ofFn _ z⟩
  case given =>
    rw [giveUpZones_eq s b y given distinct]
    exact ⟨rfl, fun z => vector_get_ofFn _ z⟩

end Sys2Proof.Machine

/-! What a command can do, said once for all of them: it has one effect out of a list, with the conditions under which it has it, before
and after which only ports, link and exchange change. The laws that every step keeps are derived from this list. -/

namespace Sys2Proof.Machine

open Sys2Proof.Claim

/-! ### What lies outside the tables -/

/-- `t` differs from `s` in port, link, exchange and open examinations at most. -/
structure SameCore (s t : State) : Prop where
  mc : t.mc = s.mc
  cu : t.cu = s.cu
  cm : t.cm = s.cm
  ge : t.ge = s.ge
  clock : t.lt.clock = s.lt.clock
  queue : t.lt.queue = s.lt.queue
  ct : t.ct = s.ct
  attn : t.attn = s.attn
  freeCount : t.freeCount = s.freeCount
  pending : t.pending = s.pending

namespace SameCore

theorem refl (s : State) : SameCore s s := ⟨rfl, rfl, rfl, rfl, rfl, rfl, rfl, rfl, rfl, rfl⟩

theorem trans {s t u : State} (h : SameCore s t) (k : SameCore t u) : SameCore s u :=
  ⟨k.mc.trans h.mc, k.cu.trans h.cu, k.cm.trans h.cm, k.ge.trans h.ge, k.clock.trans h.clock, k.queue.trans h.queue,
    k.ct.trans h.ct, k.attn.trans h.attn, k.freeCount.trans h.freeCount, k.pending.trans h.pending⟩

theorem of_si (s : State) (si : SupervisorInterface) : SameCore s { s with si := si } :=
  ⟨rfl, rfl, rfl, rfl, rfl, rfl, rfl, rfl, rfl, rfl⟩

theorem of_li (s : State) (li : LinkInterface) : SameCore s { s with li := li } :=
  ⟨rfl, rfl, rfl, rfl, rfl, rfl, rfl, rfl, rfl, rfl⟩

theorem of_es (s : State) (es : ExchangeScheduler) : SameCore s { s with es := es } :=
  ⟨rfl, rfl, rfl, rfl, rfl, rfl, rfl, rfl, rfl, rfl⟩

theorem respond (s : State) (r : Result) (contents : List Byte) : SameCore s (s.respond r contents) := by
  unfold State.respond
  split
  · exact of_si s _
  · exact refl s
  · exact refl s

theorem publish (s : State) : SameCore s s.publish := by
  unfold State.publish
  split
  · split
    · exact of_si s _
    · exact refl s
  all_goals exact refl s

theorem readNext (s : State) : SameCore s s.readNext := by
  rw [readNext_si]
  exact of_si s _

theorem readBytes (n : Nat) : ∀ s, SameCore s (State.readBytes n s) := by
  induction n with
  | zero => exact refl
  | succ n ih => exact fun s => (readNext s).trans (ih _)

theorem readThrough (s : State) (a : PortAddress) : SameCore s (s.readThrough a) := by
  unfold State.readThrough
  split
  · exact readBytes _ s
  all_goals exact refl s

theorem markDiscard (s : State) (c : Slot) : SameCore s (s.markDiscard c) := by
  rw [markDiscard_es]
  exact of_es s _

/-- A FRAME START changes the exchange at most. -/
theorem frameStart (s : State) : SameCore s (s.takeReport .frameStart) := by
  unfold State.takeReport
  split
  · exact of_es s _
  all_goals exact refl s

theorem endTransmission (s : State) : SameCore s s.endTransmission := by
  unfold State.endTransmission
  dsimp only
  split
  · exact (of_li s _).trans (of_es _ _)
  · exact (of_li s _).trans (of_es _ _)
  all_goals exact of_li s _

end SameCore

/-! ### The effects -/

/-- The effects on the tables of leases and clients and on the Attention Set: they move neither mode nor catalogue nor memory. -/
inductive TableEffect : State → State → Prop
  | lapse {s : State} {b : BundleId} (head : s.passedHead = some b) : TableEffect s (s.lapseBundle b)
  | waits (s : State) : TableEffect s s.examineWaits
  | miss {s : State} {x : Exchange} (stands : s.exchangeStands x = true) : TableEffect s (s.miss x.target)
  | idle {s : State} {x : Exchange} (stands : s.exchangeStands x = true) (ack : Option Byte) :
      TableEffect s (s.acceptReply x.target ack)
  | request {s : State} {x : Exchange} (stands : s.exchangeStands x = true) (seq : RequestSeq) (ack : Option Byte) (req : Request) :
      TableEffect s (s.requestReply x.target seq ack req).1
  | fault (s : State) (b : Bank) : TableEffect s (s.postAttention (.nvFault b))
  | close {s : State} (served : s.inService = true) (z : ZoneId) : TableEffect s (s.setZone z { s.ge.zones[z] with closed := true })
  | opening {s : State} (served : s.inService = true) (z : ZoneId) :
      TableEffect s (s.setZone z { s.ge.zones[z] with closed := false }).requestScan
  | clear {s : State} (served : s.inService = true) (z : ZoneId) :
      TableEffect s (s.setZone z { s.ge.zones[z] with fences := 0 }).requestScan
  | revoke {s : State} {b : BundleId} {x : Bundle} (live : s.ge.bundles[b] = some x) (d : ExpiryPolicy) :
      TableEffect s ((s.endBundle b fun _ => d).postNotice x.holder
        (.revoked b x.tag (markedZones x.zones fun _ => d))).requestScan
  | withdraw {s : State} {c : Slot} {e : Entry} (waits : s.entryOf c = some e) :
      TableEffect s ((s.removeEntry c).postNotice c (.withdrawn e.tag .supervisor)).requestScan
  | bar {s : State} {c : Slot} (used : s.inUse c = true) (d : ExpiryPolicy) : TableEffect s (s.barClient c d)
  | unbar {s : State} {c : Slot} (used : s.inUse c = true) (barred : s.ct[c].state = .barred) :
      TableEffect s (s.setClient c { s.ct[c] with state := .absent })
  | fetch (s : State) : TableEffect s { s with attn := s.attn.fetch }

/-- The effects on the catalogue memory. -/
inductive CommitEffect : State → State → Prop
  | begin {s : State} (mode : s.mc.mode = .config) (idle : s.cm.commit = none) (more : generationSpent s.cm.active = false) :
      CommitEffect s s.beginCommit
  | erase {s : State} {r : CommitRecord} (runs : s.cm.commit = some r) (phase : r.phase = .erase) (readBack : List Byte) :
      CommitEffect s (s.eraseDone r readBack)
  | program {s : State} {r : CommitRecord} (runs : s.cm.commit = some r) (phase : r.phase = .program) (readBack : List Byte) :
      CommitEffect s (s.programDone r readBack)
  | generation {s : State} {r : CommitRecord} (runs : s.cm.commit = some r) (phase : r.phase = .markGeneration)
      (readBack : List Byte) : CommitEffect s (s.generationDone r readBack)
  | marker {s : State} {r : CommitRecord} (runs : s.cm.commit = some r) (phase : r.phase = .markMarker) (readBack : List Byte) :
      CommitEffect s (s.markerDone r readBack)
  | nvwe {s : State} {r : CommitRecord} (runs : s.cm.commit = some r) : CommitEffect s (s.stopOperation.failCommit r .nvwe)

/-- The effects on the working catalogue: the edits in CONFIG, outside a commit, and the freeze. -/
inductive CatalogueEffect : State → State → Prop
  | zone {s : State} {r : ZoneRecord} (mode : s.mc.mode = .config) (idle : s.cm.commit = none) (valid : r.Valid) (z : ZoneId) :
      CatalogueEffect s { s with cu := { s.cu with
        catalogue := { s.cu.catalogue with zones := s.cu.catalogue.zones.set z r }, dirty := true } }
  | client {s : State} {c : Slot} {r : ClientRecord} (mode : s.mc.mode = .config) (idle : s.cm.commit = none) (valid : r.Valid)
      (own : s.addressTaken c r = false) :
      CatalogueEffect s (s.replaceCatalogue { s.cu.catalogue with clients := s.cu.catalogue.clients.set c r } true)
  | parameters {s : State} {p : Parameters} (mode : s.mc.mode = .config) (idle : s.cm.commit = none) (valid : p.Valid) :
      CatalogueEffect s { s with cu := { s.cu with catalogue := { s.cu.catalogue with params := p }, dirty := true } }
  | clear {s : State} (mode : s.mc.mode = .config) (idle : s.cm.commit = none) :
      CatalogueEffect s (s.replaceCatalogue emptyCatalogue true)
  | revert {s : State} {b : Bank} {g g' : Word} {cat : Catalogue} (mode : s.mc.mode = .config) (idle : s.cm.commit = none)
      (active : s.cm.active = some (b, g)) (bank : classifyBank s.cm.nv b = .valid g' cat) :
      CatalogueEffect s (s.replaceCatalogue cat false)
  | freeze (s : State) : CatalogueEffect s { s with cu := { s.cu with freeze := true } }

/-- The effects of a command, each with the rows that have it where the mode or the clock moves. -/
inductive Effect : Instr → State → State → Prop
  | nothing (i : Instr) (s : State) : Effect i s s
  | tables {s t : State} (i : Instr) (h : TableEffect s t) : Effect i s t
  | memory {s t : State} (i : Instr) (h : CommitEffect s t) : Effect i s t
  | catalogue {s t : State} (i : Instr) (h : CatalogueEffect s t) : Effect i s t
  | tick (s : State) : Effect .tick s { s with lt := { s.lt with clock := s.lt.clock + 1#32 } }
  | reset {i : Instr} (row : i = .powerOnReset ∨ i = .lineReset ∨ i = .restart) (s : State) (cause : ResetCause)
      (choice : StartChoice) (freeze : Bool) : Effect i s (s.takeReset cause choice freeze)
  | lineReset (s : State) : Effect .lineReset s
      { s.takeReset .line .auto false with mc := { (s.takeReset .line .auto false).mc with rst := true } }
  | rstReleased (s : State) : Effect .rstReleased s { s with mc := { s.mc with rst := false } }
  | load {s : State} (mode : s.mc.mode = .boot) (rst : s.mc.rst = false) : Effect .catalogueLoad s s.loadCatalogue
  | stopin (s : State) (line : Bool) : Effect (if line then .stopinAsserted else .stopinDeasserted) s (s.setLine line)
  | start {s : State} (mode : s.mc.mode = .config) (idle : s.cm.commit = none) (clean : s.cu.dirty = false) :
      Effect .start s s.enterService
  | stop {s : State} (mode : s.mc.mode = .serving) (quiescent : s.quiescent = true) : Effect .stop s s.stopService
  | command {s : State} (served : s.inService = true) (present : Bool) :
      Effect (if present then .hold else .resume) s (s.setCommand present)

/-! ### Every command has one effect -/

/-- The row `i` leads from `s` to `t` by one effect, before and after which only ports, link and exchange change. -/
def Acts (i : Instr) (s t : State) : Prop := ∃ u v : State, SameCore s u ∧ Effect i u v ∧ SameCore v t

namespace Acts

variable {i : Instr} {s t u : State}

theorem of_effect (h : Effect i s t) : Acts i s t := ⟨s, t, .refl s, h, .refl t⟩

theorem of_tables (h : TableEffect s t) : Acts i s t := of_effect (.tables i h)

theorem of_same (h : SameCore s t) : Acts i s t := ⟨s, s, .refl s, .nothing i s, h⟩

theorem before (h : SameCore s u) (k : Acts i u t) : Acts i s t := by
  obtain ⟨v, w, hv, effect, hw⟩ := k
  exact ⟨v, w, h.trans hv, effect, hw⟩

theorem after (h : Acts i s t) (k : SameCore t u) : Acts i s u := by
  obtain ⟨v, w, hv, effect, hw⟩ := h
  exact ⟨v, w, hv, effect, hw.trans k⟩

theorem respond (h : Acts i s t) (r : Result) (contents : List Byte) : Acts i s (t.respond r contents) :=
  h.after (.respond t r contents)

theorem refusal (s : State) (r : Result) (contents : List Byte) : Acts i s (s.respond r contents) := of_same (.respond s r contents)

/-- A write to EXECUTE does what its decision does. -/
theorem execute {decision : Block → State → State} (h : ∀ copy u, Acts i u (decision copy u)) (s : State) (code : Byte) :
    Acts i s (s.execute code decision) := by
  obtain same | overrun | taken := execute_cases s code decision
  · rw [same]; exact of_same (.refl s)
  · rw [overrun]; exact of_same (.of_si s _)
  · rw [taken]; exact (h _ _).before (.of_si s _)

theorem checkNotBoot (h : Acts i s t) : Acts i s (s.checkNotBoot t) := by
  unfold State.checkNotBoot
  split
  · exact refusal s _ _
  · exact h

theorem checkInService (h : s.inService = true → Acts i s t) : Acts i s (s.checkInService t) := by
  unfold State.checkInService
  split
  · exact h ‹_›
  · exact refusal s _ _

theorem checkEdit (h : s.mc.mode = .config → s.cm.commit = none → Acts i s t) : Acts i s (s.checkEdit t) := by
  unfold State.checkEdit
  split
  · exact refusal s _ _
  · split
    · exact refusal s _ _
    · split
      · exact refusal s _ _
      · exact h (by simpa using ‹¬ s.mc.mode ≠ .config›) (by simpa using ‹¬ s.cm.commit.isSome = true›)

/-! #### The link and the exchange -/

theorem failExchange (s : State) (x : Exchange) : Acts i s (s.failExchange x) := by
  unfold State.failExchange
  dsimp only
  split
  · exact (of_tables (.miss ‹_›)).after (.of_es _ _)
  · exact of_same (.of_es s _)

theorem takeReply (s : State) (x : Exchange) (reply : Reply) : Acts i s (s.takeReply x reply) := by
  unfold State.takeReply
  split
  · cases reply with
    | idle ack => exact (of_tables (.idle ‹_› ack)).after (.of_es _ _)
    | request seq ack req => exact (of_tables (.request ‹_› seq ack req)).after (.of_es _ _)
  · exact of_same (.of_es s _)

theorem judgeReply (s : State) (x : Exchange) (f : Frame) : Acts i s (s.judgeReply x f) := by
  unfold State.judgeReply
  split
  · exact takeReply s x _
  · exact failExchange s x

theorem takeReport (s : State) (rep : Report) : Acts i s (s.takeReport rep) := by
  cases rep with
  | frameStart => exact of_same (.frameStart s)
  | delivered f =>
    unfold State.takeReport
    split
    · exact of_same (.refl s)
    · exact judgeReply s _ f
    all_goals exact of_same (.refl s)
  | abandoned cause =>
    unfold State.takeReport
    split
    · exact of_same (.refl s)
    · exact failExchange s _
    all_goals exact of_same (.refl s)

theorem takeReports_one (s : State) (rep : Report) : Acts i s (s.takeReports [rep]) := takeReport s rep

theorem takeReports_superseded (s : State) : Acts i s (s.takeReports [.abandoned .superseded, .frameStart]) :=
  (takeReport s _).after (.frameStart _)

theorem abandonFrame (s : State) (cause : AbandonCause) (r : Receiver) : Acts i s (s.abandonFrame cause r) := by
  unfold State.abandonFrame
  dsimp only
  split
  · exact (takeReport _ _).before (.of_li s _)
  · exact of_same (.of_li s _)

theorem takeCharacter (s : State) (mark : Bool) (d : Byte) : Acts i s (s.takeCharacter mark d) := by
  suffices ∀ r : Receiver × List Report, r = s.li.receiver.take mark d → Acts i (s.setReceiver r.1) ((s.setReceiver r.1).takeReports r.2)
    from (this _ rfl).before (.of_li s _)
  rintro ⟨r, reports⟩ h
  have none : ∀ u : State, Acts i u (u.takeReports []) := fun u => of_same (.refl u)
  unfold Receiver.take Receiver.takeMarked Receiver.takeUnmarked at h
  split at h
  · obtain ⟨rfl, rfl⟩ := Prod.mk.inj h
    split
    · exact takeReports_superseded _
    · exact takeReports_one _ _
  · repeat' split at h
    all_goals
      obtain ⟨rfl, rfl⟩ := Prod.mk.inj h
      first | exact none _ | exact takeReports_one _ _

theorem deliverReply (s : State) (reply : Reply) : Acts i s (s.deliverReply reply) := by
  unfold State.deliverReply
  split
  · exact (takeReply _ _ reply).before (.of_li s _)
  all_goals exact of_same (.refl s)

theorem transmit (s : State) (address : Nat) (kind : Byte) (body : List Byte) : Acts i s (s.transmit address kind body) :=
  (abandonFrame s .transmit .muted).after (.of_li _ _)

theorem pollTarget (s : State) (c : Slot) : Acts i s (s.pollTarget c) :=
  ((transmit _ _ _ _).before (.of_es s _)).after (.of_es _ _)

/-! #### The commit -/

theorem decideCommit (nvwe : Bool) (copy : Block) (s : State) : Acts i s (decideCommit nvwe copy s) := by
  unfold Machine.decideCommit
  repeat' split
  · exact refusal s _ _
  · exact refusal s _ _
  · exact refusal s _ _
  · exact refusal s _ _
  · exact refusal s _ _
  · exact of_effect (.memory i (.begin (by simpa using ‹¬ s.mc.mode ≠ .config›) (by simpa using ‹¬ s.cm.commit.isSome = true›)
      (by simpa using ‹¬ generationSpent s.cm.active = true›)))

/-! #### Edits -/

theorem parseZoneRecord_valid {bytes : List Byte} {r : ZoneRecord} (h : parseZoneRecord bytes = some r) : r.Valid := by
  unfold parseZoneRecord at h
  split at h
  · split at h
    · exact absurd h (by simp)
    · split at h
      · dsimp only at h
        split at h
        · obtain rfl := Option.some.inj h
          assumption
        · exact absurd h (by simp)
      · exact absurd h (by simp)
  · exact absurd h (by simp)

theorem parseClientRecord_valid {bytes : List Byte} {r : ClientRecord} (h : parseClientRecord bytes = some r) : r.Valid := by
  unfold parseClientRecord at h
  split at h
  · dsimp only at h
    split at h
    · obtain rfl := Option.some.inj h
      assumption
    · exact absurd h (by simp)
  · exact absurd h (by simp)

theorem parseParameters_valid {bytes : List Byte} {p : Parameters} (h : parseParameters bytes = some p) : p.Valid := by
  unfold parseParameters at h
  split at h
  · split at h
    · exact absurd h (by simp)
    · dsimp only at h
      split at h
      · obtain rfl := Option.some.inj h
        assumption
      · exact absurd h (by simp)
  · exact absurd h (by simp)

theorem decideSetZone (copy : Block) (s : State) : Acts i s (decideSetZone copy s) := by
  refine checkEdit fun mode idle => ?_
  split
  · next z r _ hr => exact (of_effect (.catalogue i (.zone mode idle (parseZoneRecord_valid hr) z))).respond _ _
  · exact refusal s _ _

theorem decideSetClient (copy : Block) (s : State) : Acts i s (decideSetClient copy s) := by
  refine checkEdit fun mode idle => ?_
  split
  · next c r _ hr =>
    split
    · exact refusal s _ _
    · have free : s.addressTaken c r = false := Bool.eq_false_iff.2 ‹¬ s.addressTaken c r = true›
      exact (of_effect (.catalogue i (.client mode idle (parseClientRecord_valid hr) free))).respond _ _
  · exact refusal s _ _

theorem decideSetParameters (copy : Block) (s : State) : Acts i s (decideSetParameters copy s) := by
  refine checkEdit fun mode idle => ?_
  split
  · next p hp => exact (of_effect (.catalogue i (.parameters mode idle (parseParameters_valid hp)))).respond _ _
  · exact refusal s _ _

theorem decideClearCatalogue (copy : Block) (s : State) : Acts i s (decideClearCatalogue copy s) :=
  checkEdit fun mode idle => (of_effect (.catalogue i (.clear mode idle))).respond _ _

theorem decideRevert (copy : Block) (s : State) : Acts i s (decideRevert copy s) := by
  refine checkEdit fun mode idle => ?_
  split
  · exact refusal s _ _
  · next b g active =>
    split
    · next bank => exact (of_effect (.catalogue i (.revert mode idle active bank))).respond _ _
    · exact (of_tables (.fault s b)).respond _ _
    · exact (of_tables (.fault s b)).respond _ _

theorem decideFreeze (copy : Block) (s : State) : Acts i s (decideFreeze copy s) :=
  checkNotBoot ((of_effect (.catalogue i (.freeze s))).respond _ _)

/-! #### Zones, bundles and requests -/

theorem decideCloseZone (copy : Block) (s : State) : Acts i s (decideCloseZone copy s) := by
  refine checkInService fun served => ?_
  split
  · exact (of_tables (.close served _)).respond _ _
  · exact refusal s _ _

theorem decideOpenZone (copy : Block) (s : State) : Acts i s (decideOpenZone copy s) := by
  refine checkInService fun served => ?_
  split
  · split
    · exact (of_tables (.opening served _)).respond _ _
    · exact refusal s _ _
  · exact refusal s _ _

theorem decideClearFence (copy : Block) (s : State) : Acts i s (decideClearFence copy s) := by
  refine checkInService fun served => ?_
  split
  · split
    · exact refusal s _ _
    · exact (of_tables (.clear served _)).respond _ _
  · exact refusal s _ _

theorem decideRevokeBundle (copy : Block) (s : State) : Acts i s (decideRevokeBundle copy s) := by
  refine checkInService fun _ => ?_
  split
  · split
    · exact (of_tables (.revoke ‹_› _)).respond _ _
    · exact refusal s _ _
  · exact refusal s _ _

theorem decideWithdrawRequest (copy : Block) (s : State) : Acts i s (decideWithdrawRequest copy s) := by
  refine checkInService fun _ => ?_
  split
  · split
    · exact (of_tables (.withdraw ‹_›)).respond _ _
    · exact refusal s _ _
  · exact refusal s _ _

/-! #### Clients, attentions and modes -/

theorem decideBarClient (copy : Block) (s : State) : Acts i s (decideBarClient copy s) := by
  refine checkNotBoot ?_
  split
  · split
    · exact refusal s _ _
    · split
      · exact refusal s _ _
      · exact (of_tables (.bar (by simpa using ‹¬ (!s.inUse _) = true›) _)).respond _ _
  · exact refusal s _ _

theorem decideUnbarClient (copy : Block) (s : State) : Acts i s (decideUnbarClient copy s) := by
  refine checkNotBoot ?_
  split
  · split
    · exact refusal s _ _
    · split
      · exact (of_tables (.unbar (by simpa using ‹¬ (!s.inUse _) = true›) ‹_›)).respond _ _
      · exact refusal s _ _
  · exact refusal s _ _

theorem decideFetchAttention (copy : Block) (s : State) : Acts i s (decideFetchAttention copy s) :=
  checkNotBoot ((of_tables (.fetch s)).respond _ _)

theorem decideStart (copy : Block) (s : State) : Acts .start s (decideStart copy s) := by
  unfold Machine.decideStart
  split
  · exact refusal s _ _
  · split
    · exact refusal s _ _
    · split
      · exact refusal s _ _
      · exact (of_effect (.start (by simpa using ‹¬ s.mc.mode ≠ .config›) (by simpa using ‹¬ s.cm.commit.isSome = true›)
          (by simpa using ‹¬ s.cu.dirty = true›))).respond _ _

theorem decideStop (copy : Block) (s : State) : Acts .stop s (decideStop copy s) := by
  unfold Machine.decideStop
  split
  · exact refusal s _ _
  · split
    · exact refusal s _ _
    · exact (of_effect (.stop (by simpa using ‹¬ s.mc.mode ≠ .serving›) (by simpa using ‹¬ (!s.quiescent) = true›))).respond _ _

theorem decideHold (copy : Block) (s : State) : Acts .hold s (decideHold copy s) :=
  checkInService fun served => (of_effect (.command served true)).respond _ _

theorem decideResume (copy : Block) (s : State) : Acts .resume s (decideResume copy s) :=
  checkInService fun served => (of_effect (.command served false)).respond _ _

theorem decideRestart (copy : Block) (s : State) : Acts .restart s (decideRestart copy s) := by
  refine checkNotBoot ?_
  split
  · exact of_effect (.reset (.inr (.inr rfl)) s _ _ _)
  · exact refusal s _ _

/-! #### The reads -/

theorem decideReadZoneRecord (copy : Block) (s : State) : Acts i s (decideReadZoneRecord copy s) := by
  refine checkNotBoot ?_
  split
  all_goals exact refusal s _ _

theorem decideReadClientRecord (copy : Block) (s : State) : Acts i s (decideReadClientRecord copy s) := by
  refine checkNotBoot ?_
  split
  all_goals exact refusal s _ _

theorem decideReadZoneState (copy : Block) (s : State) : Acts i s (decideReadZoneState copy s) := by
  refine checkNotBoot ?_
  split
  all_goals exact refusal s _ _

theorem decideReadBundle (copy : Block) (s : State) : Acts i s (decideReadBundle copy s) := by
  refine checkNotBoot ?_
  repeat' split
  all_goals exact refusal s _ _

theorem decideReadPending (copy : Block) (s : State) : Acts i s (decideReadPending copy s) := by
  refine checkNotBoot ?_
  dsimp only
  repeat' split
  all_goals exact refusal s _ _

theorem decideReadClientState (copy : Block) (s : State) : Acts i s (decideReadClientState copy s) := by
  refine checkNotBoot ?_
  repeat' split
  all_goals exact refusal s _ _

end Acts

/-- Every command goes on, and has one effect. -/
theorem exec_acts (i : Instr) (s : State) : ∃ t, exec i s = .next t ∧ Acts i s t := by
  have same : ∀ {t : State}, SameCore s t → Acts i s t := Acts.of_same
  cases i with
  | powerOnReset => exact ⟨_, rfl, .of_effect (.reset (.inl rfl) s _ _ _)⟩
  | lineReset =>
    show ∃ t, execLineReset s = .next t ∧ _
    unfold execLineReset
    split
    · exact ⟨_, rfl, same (.refl s)⟩
    · exact ⟨_, rfl, .of_effect (.lineReset s)⟩
  | rstReleased => exact ⟨_, rfl, .of_effect (.rstReleased s)⟩
  | catalogueLoad =>
    show ∃ t, execCatalogueLoad s = .next t ∧ _
    unfold execCatalogueLoad
    split
    · next boot => exact ⟨_, rfl, .of_effect (.load boot.1 boot.2)⟩
    · exact ⟨_, rfl, same (.refl s)⟩
  | tick =>
    show ∃ t, execTick s = .next t ∧ _
    unfold execTick
    split
    · exact ⟨_, rfl, (Acts.of_effect (.tick s)).after ⟨rfl, rfl, rfl, rfl, rfl, rfl, rfl, rfl, rfl, rfl⟩⟩
    · exact ⟨_, rfl, same (.refl s)⟩
  | lapse =>
    have examined : ∀ u : State, SameCore u u.examineHead := fun u => ⟨rfl, rfl, rfl, rfl, rfl, rfl, rfl, rfl, rfl, rfl⟩
    show ∃ t, execLapse s = .next t ∧ _
    unfold execLapse
    split
    · split
      · exact ⟨_, rfl, (Acts.of_tables (.lapse ‹_›)).after (examined _)⟩
      · exact ⟨_, rfl, same (examined s)⟩
    · exact ⟨_, rfl, same (.refl s)⟩
  | waitAlarmExamination =>
    show ∃ t, execWaitAlarmExamination s = .next t ∧ _
    unfold execWaitAlarmExamination
    split
    · exact ⟨_, rfl, (Acts.of_tables (.waits s)).after ⟨rfl, rfl, rfl, rfl, rfl, rfl, rfl, rfl, rfl, rfl⟩⟩
    · exact ⟨_, rfl, same (.refl s)⟩
  | stopinAsserted => exact ⟨_, rfl, .of_effect (.stopin s true)⟩
  | stopinDeasserted => exact ⟨_, rfl, .of_effect (.stopin s false)⟩
  | characterReceived mark data =>
    show ∃ t, execCharacterReceived mark data s = .next t ∧ _
    unfold execCharacterReceived
    split
    · exact ⟨_, rfl, .takeCharacter s mark data⟩
    · exact ⟨_, rfl, same (.refl s)⟩
  | framingError =>
    show ∃ t, execFramingError s = .next t ∧ _
    unfold execFramingError
    split
    · exact ⟨_, rfl, (Acts.abandonFrame _ _ _).before (.of_li s _)⟩
    · exact ⟨_, rfl, same (.refl s)⟩
  | gapLimitExpiry =>
    show ∃ t, execGapLimitExpiry s = .next t ∧ _
    unfold execGapLimitExpiry
    split
    · exact ⟨_, rfl, .abandonFrame s _ _⟩
    · exact ⟨_, rfl, same (.refl s)⟩
  | beginExchange =>
    show ∃ t, execBeginExchange s = .next t ∧ _
    unfold execBeginExchange
    split
    · split
      · exact ⟨_, rfl, .pollTarget s _⟩
      · exact ⟨_, rfl, same (.refl s)⟩
    · exact ⟨_, rfl, same (.refl s)⟩
  | transmitDone =>
    show ∃ t, execTransmitDone s = .next t ∧ _
    unfold execTransmitDone
    split
    · exact ⟨_, rfl, same (.endTransmission s)⟩
    · exact ⟨_, rfl, same (.refl s)⟩
  | replyWindowTimeout =>
    show ∃ t, execReplyWindowTimeout s = .next t ∧ _
    unfold execReplyWindowTimeout
    split
    · exact ⟨_, rfl, .failExchange s _⟩
    all_goals exact ⟨_, rfl, same (.refl s)⟩
  | sendAnswer =>
    show ∃ t, execSendAnswer s = .next t ∧ _
    unfold execSendAnswer
    split
    · split
      · exact ⟨_, rfl, (Acts.transmit s _ _ _).after (.of_es _ _)⟩
      · exact ⟨_, rfl, same (.refl s)⟩
    all_goals exact ⟨_, rfl, same (.refl s)⟩
  | idle ack => exact ⟨_, rfl, .deliverReply s _⟩
  | malformedRequest seq ack => exact ⟨_, rfl, .deliverReply s _⟩
  | join seq ack session => exact ⟨_, rfl, .deliverReply s _⟩
  | leave seq ack => exact ⟨_, rfl, .deliverReply s _⟩
  | acquire seq ack tag wait term zones => exact ⟨_, rfl, .deliverReply s _⟩
  | cancel seq ack tag => exact ⟨_, rfl, .deliverReply s _⟩
  | renew seq ack bundle token term => exact ⟨_, rfl, .deliverReply s _⟩
  | release seq ack bundle token zone => exact ⟨_, rfl, .deliverReply s _⟩
  | status seq ack => exact ⟨_, rfl, .deliverReply s _⟩
  | setZone => exact ⟨_, rfl, .execute Acts.decideSetZone s _⟩
  | setClient => exact ⟨_, rfl, .execute Acts.decideSetClient s _⟩
  | setParameters => exact ⟨_, rfl, .execute Acts.decideSetParameters s _⟩
  | clearCatalogue => exact ⟨_, rfl, .execute Acts.decideClearCatalogue s _⟩
  | revert => exact ⟨_, rfl, .execute Acts.decideRevert s _⟩
  | readZoneRecord => exact ⟨_, rfl, .execute Acts.decideReadZoneRecord s _⟩
  | readClientRecord => exact ⟨_, rfl, .execute Acts.decideReadClientRecord s _⟩
  | freeze => exact ⟨_, rfl, .execute Acts.decideFreeze s _⟩
  | closeZone => exact ⟨_, rfl, .execute Acts.decideCloseZone s _⟩
  | openZone => exact ⟨_, rfl, .execute Acts.decideOpenZone s _⟩
  | clearFence => exact ⟨_, rfl, .execute Acts.decideClearFence s _⟩
  | revokeBundle => exact ⟨_, rfl, .execute Acts.decideRevokeBundle s _⟩
  | readZoneState => exact ⟨_, rfl, .execute Acts.decideReadZoneState s _⟩
  | readBundle => exact ⟨_, rfl, .execute Acts.decideReadBundle s _⟩
  | withdrawRequest => exact ⟨_, rfl, .execute Acts.decideWithdrawRequest s _⟩
  | readPending => exact ⟨_, rfl, .execute Acts.decideReadPending s _⟩
  | barClient => exact ⟨_, rfl, .execute Acts.decideBarClient s _⟩
  | unbarClient => exact ⟨_, rfl, .execute Acts.decideUnbarClient s _⟩
  | readClientState => exact ⟨_, rfl, .execute Acts.decideReadClientState s _⟩
  | fetchAttention => exact ⟨_, rfl, .execute Acts.decideFetchAttention s _⟩
  | start => exact ⟨_, rfl, .execute Acts.decideStart s _⟩
  | stop => exact ⟨_, rfl, .execute Acts.decideStop s _⟩
  | hold => exact ⟨_, rfl, .execute Acts.decideHold s _⟩
  | resume => exact ⟨_, rfl, .execute Acts.decideResume s _⟩
  | restart => exact ⟨_, rfl, .execute Acts.decideRestart s _⟩
  | readParameters => exact ⟨_, rfl, .execute (fun _ u => .checkNotBoot (.refusal u _ _)) s _⟩
  | readLeaseClock => exact ⟨_, rfl, .execute (fun _ u => .checkNotBoot (.refusal u _ _)) s _⟩
  | commit nvwe => exact ⟨_, rfl, .execute (Acts.decideCommit nvwe) s _⟩
  | commitErasePageDone readBack =>
    show ∃ t, execCommitErasePageDone readBack s = .next t ∧ _
    unfold execCommitErasePageDone
    split
    · split
      · exact ⟨_, rfl, .of_effect (.memory _ (.erase ‹_› ‹_› readBack))⟩
      · exact ⟨_, rfl, same (.refl s)⟩
    · exact ⟨_, rfl, same (.refl s)⟩
  | commitProgramPageDone readBack =>
    show ∃ t, execCommitProgramPageDone readBack s = .next t ∧ _
    unfold execCommitProgramPageDone
    split
    · split
      · exact ⟨_, rfl, .of_effect (.memory _ (.program ‹_› ‹_› readBack))⟩
      · exact ⟨_, rfl, same (.refl s)⟩
    · exact ⟨_, rfl, same (.refl s)⟩
  | commitMarkGenerationDone readBack =>
    show ∃ t, execCommitMarkGenerationDone readBack s = .next t ∧ _
    unfold execCommitMarkGenerationDone
    split
    · split
      · exact ⟨_, rfl, .of_effect (.memory _ (.generation ‹_› ‹_› readBack))⟩
      · exact ⟨_, rfl, same (.refl s)⟩
    · exact ⟨_, rfl, same (.refl s)⟩
  | commitMarkMarkerDone readBack =>
    show ∃ t, execCommitMarkMarkerDone readBack s = .next t ∧ _
    unfold execCommitMarkMarkerDone
    split
    · split
      · exact ⟨_, rfl, .of_effect (.memory _ (.marker ‹_› ‹_› readBack))⟩
      · exact ⟨_, rfl, same (.refl s)⟩
    · exact ⟨_, rfl, same (.refl s)⟩
  | nvweInactive =>
    show ∃ t, execNvweInactive s = .next t ∧ _
    unfold execNvweInactive
    split
    · exact ⟨_, rfl, .of_effect (.memory _ (.nvwe ‹_›))⟩
    · exact ⟨_, rfl, same (.refl s)⟩
  | badCommand =>
    show ∃ t, execBadCommand s = .next t ∧ _
    unfold execBadCommand
    split
    · split
      · exact ⟨_, rfl, same (.of_si s _)⟩
      · split
        · exact ⟨_, rfl, same (.refl s)⟩
        · exact ⟨_, rfl, same ((SameCore.of_si s _).trans (.respond _ _ _))⟩
    · exact ⟨_, rfl, same (.refl s)⟩
  | executeOverrun =>
    show ∃ t, execExecuteOverrun s = .next t ∧ _
    unfold execExecuteOverrun
    split
    · exact ⟨_, rfl, same (.of_si s _)⟩
    · exact ⟨_, rfl, same (.refl s)⟩
  | publishResponse => exact ⟨_, rfl, same (.publish s)⟩
  | readStatus1 => exact ⟨_, rfl, same (.readThrough s _)⟩
  | readLeaseClockLatch => exact ⟨_, rfl, same (.readThrough s _)⟩
  | readResultByte => exact ⟨_, rfl, same (.readThrough s _)⟩
  | writeAlertEnable value =>
    show ∃ t, execWriteAlertEnable value s = .next t ∧ _
    unfold execWriteAlertEnable
    split
    · exact ⟨_, rfl, same (.of_si s _)⟩
    · exact ⟨_, rfl, same (.refl s)⟩
  | writeRegister value =>
    show ∃ t, execWriteRegister value s = .next t ∧ _
    unfold execWriteRegister
    split
    · split
      · exact ⟨_, rfl, same (.refl s)⟩
      · split
        · exact ⟨_, rfl, same (.of_si s _)⟩
        · exact ⟨_, rfl, same (.of_si s _)⟩
    all_goals exact ⟨_, rfl, same (.refl s)⟩
  | lineReturnsTo1 =>
    show ∃ t, execLineReturnsTo1 s = .next t ∧ _
    unfold execLineReturnsTo1
    split
    · exact ⟨_, rfl, same (.of_li s _)⟩
    · exact ⟨_, rfl, same (.refl s)⟩
  | transactionBegin first =>
    show ∃ t, execTransactionBegin first s = .next t ∧ _
    unfold execTransactionBegin
    split
    · split
      · exact ⟨_, rfl, same ((SameCore.publish s).trans (.of_si _ _))⟩
      · exact ⟨_, rfl, same ((SameCore.publish s).trans (.of_si _ _))⟩
    · exact ⟨_, rfl, same (.refl s)⟩
  | transactionEnd =>
    show ∃ t, execTransactionEnd s = .next t ∧ _
    unfold execTransactionEnd
    split
    · exact ⟨_, rfl, same (.refl s)⟩
    · exact ⟨_, rfl, same ((SameCore.of_si s _).trans (.publish _))⟩

/-- Everything a command can do. -/
theorem acts_of_exec {i : Instr} {s t : State} (h : exec i s = .next t) : Acts i s t := by
  obtain ⟨u, hu, acts⟩ := exec_acts i s
  rw [hu] at h
  obtain rfl := Host.Outcome.next.inj h
  exact acts

/-- A law that ports, link and exchange have no part in, and that every effect keeps, is kept by every step. -/
theorem step_keeps {P : State → Prop} (core : ∀ {s t : State}, SameCore s t → P s → P t)
    (effect : ∀ {i : Instr} {s t : State}, Effect i s t → P s → P t)
    (queue : ∀ (s : State) (l : List Instr), P s → P { s with pending := l })
    {s t : State} (h : step s = .next t) (hs : P s) : P t := by
  unfold step at h
  split at h
  · obtain rfl := Host.Outcome.next.inj h
    exact hs
  · obtain ⟨u, v, hu, e, hv⟩ := acts_of_exec h
    exact core hv (effect e (core hu (queue s _ hs)))

end Sys2Proof.Machine

/-! Modes, time and resets: which effects move the mode and the clock, what the load and the start of service set up, and what a reset
leaves (Chapters 4 and 10). -/

namespace Sys2Proof.Machine

open Sys2Proof.Claim Sys2Proof.Safety

/-! ### What the effects leave alone -/

/-- `t` has mode, catalogue, memory and clock of `s`, and the commands behind it. -/
structure SameControl (s t : State) : Prop where
  mc : t.mc = s.mc
  cu : t.cu = s.cu
  cm : t.cm = s.cm
  clock : t.lt.clock = s.lt.clock
  freeCount : t.freeCount = s.freeCount
  pending : t.pending = s.pending

namespace SameControl

theorem of_tables {s t : State} (h : TablesOnly s t) : SameControl s t := ⟨h.mc, h.cu, h.cm, h.clock, h.freeCount, h.pending⟩

theorem of_core {s t : State} (h : SameCore s t) : SameControl s t := ⟨h.mc, h.cu, h.cm, h.clock, h.freeCount, h.pending⟩

theorem trans {s t u : State} (h : SameControl s t) (k : SameControl t u) : SameControl s u :=
  ⟨k.mc.trans h.mc, k.cu.trans h.cu, k.cm.trans h.cm, k.clock.trans h.clock, k.freeCount.trans h.freeCount,
    k.pending.trans h.pending⟩

end SameControl

theorem lapseBundle_tables (s : State) (b : BundleId) : TablesOnly s (s.lapseBundle b) := by
  unfold State.lapseBundle
  split
  · exact ((endBundle_tables s b _).trans (postNotice_tables _ _ _)).trans (requestScan_tables _)
  · exact removeBundle_tables s b

theorem examineWaits_tables (s : State) : TablesOnly s s.examineWaits :=
  (TablesOnly.foldl (fun t _ => postAttention_tables t _) _ s).trans (setEntries_tables _ _)

theorem barClient_control (s : State) (c : Slot) (d : ExpiryPolicy) : SameControl s (s.barClient c d) :=
  ((SameControl.of_tables (((endBundles_tables s _ _).trans (removeEntry_tables _ c)).trans (setClient_tables _ c _))).trans
    (.of_core (.markDiscard _ c))).trans (.of_tables (requestScan_tables _))

theorem TableEffect.control {s t : State} (h : TableEffect s t) : SameControl s t := by
  cases h with
  | lapse head => exact .of_tables (lapseBundle_tables s _)
  | waits => exact .of_tables (examineWaits_tables s)
  | miss stands => exact .of_tables (miss_tables s _)
  | idle stands ack => exact .of_tables (acceptReply_tables s _ _)
  | request stands seq ack req => exact .of_tables (requestReply_tables s _ _ _ _)
  | fault b => exact .of_tables (postAttention_tables s _)
  | close served z => exact .of_tables (setZone_tables s z _)
  | opening served z => exact .of_tables ((setZone_tables s z _).trans (requestScan_tables _))
  | clear served z => exact .of_tables ((setZone_tables s z _).trans (requestScan_tables _))
  | revoke live d =>
    exact .of_tables (((endBundle_tables s _ _).trans (postNotice_tables _ _ _)).trans (requestScan_tables _))
  | withdraw waits => exact .of_tables (((removeEntry_tables s _).trans (postNotice_tables _ _ _)).trans (requestScan_tables _))
  | bar used d => exact barClient_control s _ d
  | unbar used barred => exact .of_tables (setClient_tables s _ _)
  | fetch => exact ⟨rfl, rfl, rfl, rfl, rfl, rfl⟩

/-- `t` has mode, catalogue, leases and clients of `s`, and the commands behind it. -/
structure SameLeases (s t : State) : Prop where
  mc : t.mc = s.mc
  catalogue : t.cu.catalogue = s.cu.catalogue
  ge : t.ge = s.ge
  lt : t.lt = s.lt
  ct : t.ct = s.ct
  pending : t.pending = s.pending

namespace SameLeases

theorem refl (s : State) : SameLeases s s := ⟨rfl, rfl, rfl, rfl, rfl, rfl⟩

theorem trans {s t u : State} (h : SameLeases s t) (k : SameLeases t u) : SameLeases s u :=
  ⟨k.mc.trans h.mc, k.catalogue.trans h.catalogue, k.ge.trans h.ge, k.lt.trans h.lt, k.ct.trans h.ct,
    k.pending.trans h.pending⟩

theorem respond (s : State) (r : Result) (contents : List Byte) : SameLeases s (s.respond r contents) := by
  unfold State.respond
  split
  all_goals exact ⟨rfl, rfl, rfl, rfl, rfl, rfl⟩

theorem stopOperation (s : State) : SameLeases s s.stopOperation := by
  unfold State.stopOperation
  split
  all_goals exact ⟨rfl, rfl, rfl, rfl, rfl, rfl⟩

theorem failCommit (s : State) (r : CommitRecord) (cause : CommitCause) : SameLeases s (s.failCommit r cause) :=
  (⟨rfl, rfl, rfl, rfl, rfl, rfl⟩ : SameLeases s
    { s.postAttention (.nvFault r.target) with cm := { s.cm with commit := none, commitState := .failed } }).trans (.respond _ _ _)

theorem endCommit (s : State) (r : CommitRecord) : SameLeases s (s.endCommit r) :=
  (⟨rfl, rfl, rfl, rfl, rfl, rfl⟩ : SameLeases s { s with
      cm := { s.cm with active := some (r.target, r.generation), commit := none, commitState := .succeeded }
      cu := { s.cu with dirty := false } }).trans (.respond _ _ _)

theorem continueCommit (s : State) (r : CommitRecord) (phase : CommitPhase) (page : Fin 64) :
    SameLeases s (s.continueCommit r phase page) := ⟨rfl, rfl, rfl, rfl, rfl, rfl⟩

theorem setNv (s : State) (nv : List Host.Cell) : SameLeases s (s.setNv nv) := ⟨rfl, rfl, rfl, rfl, rfl, rfl⟩

end SameLeases

theorem SameLeases.beginCommit (s : State) : SameLeases s s.beginCommit := by
  constructor
  all_goals simp only [State.beginCommit]

theorem CommitEffect.leases {s t : State} (h : CommitEffect s t) : SameLeases s t := by
  cases h with
  | begin mode idle more => exact .beginCommit s
  | erase runs phase readBack =>
    simp only [State.eraseDone]
    split
    · split
      · exact (SameLeases.setNv s _).trans (.continueCommit _ _ _ _)
      · split
        · exact (SameLeases.setNv s _).trans (.continueCommit _ _ _ _)
        · exact (SameLeases.setNv s _).trans (.continueCommit _ _ _ _)
    · exact (SameLeases.setNv s _).trans (.failCommit _ _ _)
  | program runs phase readBack =>
    simp only [State.programDone]
    split
    · split
      · exact (SameLeases.setNv s _).trans (.continueCommit _ _ _ _)
      · exact (SameLeases.setNv s _).trans (.continueCommit _ _ _ _)
    · exact (SameLeases.setNv s _).trans (.failCommit _ _ _)
  | generation runs phase readBack =>
    simp only [State.generationDone]
    split
    · exact (SameLeases.setNv s _).trans (.continueCommit _ _ _ _)
    · exact (SameLeases.setNv s _).trans (.failCommit _ _ _)
  | marker runs phase readBack =>
    simp only [State.markerDone]
    split
    · exact (SameLeases.setNv s _).trans (.endCommit _ _)
    · exact (SameLeases.setNv s _).trans (.failCommit _ _ _)
  | nvwe runs => exact (SameLeases.stopOperation s).trans (.failCommit _ _ _)

/-- An edit moves neither mode nor leases nor memory. -/
structure SameBesidesCatalogue (s t : State) : Prop where
  mc : t.mc = s.mc
  cm : t.cm = s.cm
  ge : t.ge = s.ge
  lt : t.lt = s.lt
  attn : t.attn = s.attn
  pending : t.pending = s.pending

theorem CatalogueEffect.besides {s t : State} (h : CatalogueEffect s t) : SameBesidesCatalogue s t := by
  cases h with
  | zone | client | parameters | clear | revert | freeze => exact ⟨rfl, rfl, rfl, rfl, rfl, rfl⟩

/-! ### The mode and its reasons -/

/-- What a change of the hold reasons in SERVING or HOLD leads to (R172, R181). -/
theorem followReasons_cases (s : State) :
    ((s.mc.holdCommand = true ∨ s.mc.holdLine = true) ∧ s.followReasons = { s with mc := { s.mc with mode := .hold } }) ∨
    ((s.mc.holdCommand = false ∧ s.mc.holdLine = false) ∧ s.mc.mode = .hold ∧
      s.followReasons = { s with mc := { s.mc with mode := .serving } }.requestScan) ∨
    ((s.mc.holdCommand = false ∧ s.mc.holdLine = false) ∧ s.mc.mode ≠ .hold ∧ s.followReasons = s) := by
  unfold State.followReasons
  split
  · exact .inl ⟨‹_›, rfl⟩
  · have none : s.mc.holdCommand = false ∧ s.mc.holdLine = false := by
      simpa only [not_or, Bool.not_eq_true] using ‹¬ (s.mc.holdCommand = true ∨ s.mc.holdLine = true)›
    split
    · exact .inr (.inl ⟨none, ‹_›, rfl⟩)
    · exact .inr (.inr ⟨none, ‹_›, rfl⟩)

theorem followReasons_lt (s : State) : s.followReasons.lt.clock = s.lt.clock := by
  obtain ⟨-, h⟩ | ⟨-, -, h⟩ | ⟨-, -, h⟩ := followReasons_cases s
  · rw [h]
  · rw [h, (requestScan_tables _).clock]
  · rw [h]

theorem followReasons_pending (s : State) : s.followReasons.pending = s.pending := by
  obtain ⟨-, h⟩ | ⟨-, -, h⟩ | ⟨-, -, h⟩ := followReasons_cases s
  · rw [h]
  · rw [h, (requestScan_tables _).pending]
  · rw [h]

/-- The mode that a change of the reasons leads to. -/
theorem followReasons_mode (s : State) : s.followReasons.mc.mode =
    if s.mc.holdCommand = true ∨ s.mc.holdLine = true then .hold else if s.mc.mode = .hold then .serving else s.mc.mode := by
  unfold State.followReasons
  split
  · rfl
  · split
    · rw [(requestScan_tables _).mc]
    · rfl

theorem setLine_of_served {s : State} (h : s.inService = true) (line : Bool) :
    s.setLine line = { s with mc := { s.mc with stopin := line, holdLine := line } }.followReasons := if_pos h

theorem setLine_of_not_served {s : State} (h : s.inService = false) (line : Bool) :
    s.setLine line = { s with mc := { s.mc with stopin := line } } := if_neg (by simp [h])

theorem inService_cases {s : State} (h : s.inService = true) : s.mc.mode = .serving ∨ s.mc.mode = .hold := by
  simpa [State.inService] using h

theorem setLine_clock (s : State) (line : Bool) : (s.setLine line).lt.clock = s.lt.clock := by
  cases h : s.inService
  · rw [setLine_of_not_served h]
  · rw [setLine_of_served h, followReasons_lt]

theorem setLine_pending (s : State) (line : Bool) : (s.setLine line).pending = s.pending := by
  cases h : s.inService
  · rw [setLine_of_not_served h]
  · rw [setLine_of_served h, followReasons_pending]

theorem setCommand_clock (s : State) (present : Bool) : (s.setCommand present).lt.clock = s.lt.clock := followReasons_lt _

theorem setCommand_pending (s : State) (present : Bool) : (s.setCommand present).pending = s.pending := followReasons_pending _

/-! ### Resets -/

theorem takeReset_pending (s : State) (cause : ResetCause) (choice : StartChoice) (freeze : Bool) :
    (s.takeReset cause choice freeze).pending = s.pending := rfl

/-- The reset values are those of the tables. -/
theorem takeReset_values (s : State) (cause : ResetCause) (choice : StartChoice) (freeze : Bool) :
    ResetValues (s.takeReset cause choice freeze) where
  mode := ⟨rfl, rfl, rfl⟩
  dirty := rfl
  memory := ⟨rfl, rfl, rfl⟩
  zones z := by simp [State.takeReset, State.reset, emptyZoneState]
  bundles b := by simp [State.takeReset, State.reset]
  counters := ⟨rfl, rfl⟩
  entries := rfl
  clock := ⟨rfl, rfl, rfl⟩
  clients c := by simp [State.takeReset, State.reset, freshClient]
  attentions := ⟨rfl, rfl⟩
  window := ⟨rfl, rfl, rfl, rfl, rfl⟩
  blocks := ⟨fun i => by simp [State.takeReset, State.reset], fun i => by simp [State.takeReset, State.reset]⟩
  port := ⟨rfl, rfl⟩
  link := ⟨rfl, rfl, rfl⟩
  lines := ⟨rfl, rfl, rfl, rfl⟩
  exchange := ⟨rfl, rfl, rfl, rfl⟩

/-- RST and STOPIN are no reset values. -/
theorem resetValues_lines {s : State} (h : ResetValues s) (stopin rst : Bool) :
    ResetValues { s with mc := { s.mc with stopin := stopin, rst := rst } } :=
  ⟨h.mode, h.dirty, h.memory, h.zones, h.bundles, h.counters, h.entries, h.clock, h.clients, h.attentions, h.window, h.blocks,
    h.port, h.link, h.lines, h.exchange⟩

theorem resetValues_rst {s : State} (h : ResetValues s) (rst : Bool) :
    ResetValues { s with mc := { s.mc with rst := rst } } := resetValues_lines h s.mc.stopin rst

/-- With no commit running a reset leaves the banks as they are. -/
theorem takeReset_nv {s : State} (h : s.cm.commit = none) (cause : ResetCause) (choice : StartChoice) (freeze : Bool) :
    (s.takeReset cause choice freeze).cm.nv = s.cm.nv := by
  simp [State.takeReset, State.stopOperation, h]

theorem startChoiceOfByte_code (choice : StartChoice) :
    startChoiceOfByte (match choice with | .auto => 0x00#8 | .config => 0x01#8) = some choice := by
  cases choice <;> decide

theorem reset_values : ResetValues State.reset := takeReset_values State.reset .powerOn .auto false

/-- Settles O2, from the values that a reset leaves and the memory that it keeps. -/
theorem resetsLeaveResetValues : Obligations.ResetsLeaveResetValues := by
  unfold Obligations.ResetsLeaveResetValues
  refine ⟨reset_values, ?powerOn, ?line, ?restart, fun _ => rfl⟩
  case powerOn => exact fun s => ⟨_, rfl, takeReset_values s _ _ _, rfl, rfl, rfl, fun idle => takeReset_nv idle _ _ _⟩
  case line =>
    intro s released
    have line : exec .lineReset s = .next _ := if_neg (by rw [released]; decide)
    exact ⟨_, line, resetValues_rst (takeReset_values s _ _ _) true, rfl, rfl, rfl, rfl,
      fun idle => takeReset_nv idle .line .auto false⟩
  case restart =>
    intro s choice ready running code
    have decision : decideRestart s.si.commandBlock (taken s) = (taken s).takeReset .restart choice s.cu.freeze := by
      have arg : startChoiceOfByte (blockArg s.si.commandBlock 0) = some choice :=
        (congrArg startChoiceOfByte code).trans (startChoiceOfByte_code choice)
      rw [decideRestart, State.checkNotBoot, if_neg (show (taken s).mc.mode ≠ .boot from running), arg]
      rfl
    refine ⟨_, congrArg Host.Outcome.next ((execute_of_ready ready).trans decision), takeReset_values _ _ _ _, rfl, rfl, rfl,
      fun idle => takeReset_nv (s := taken s) idle _ _ _⟩

/-! ### The load -/

/-- A bank found CORRUPT posts NV_FAULT, and any other posts nothing (R163). -/
theorem postBankFault_eq (s : State) (b : Bank) (c : BankCondition) :
    s.postBankFault b c = { s with attn := if c = .corrupt then s.attn.post (.nvFault b) s.lt.clock else s.attn } := by
  cases c with
  | unmarked => rfl
  | valid g cat => rfl
  | corrupt => simp [State.postBankFault, State.postAttention]

/-- The bank and the generation that the load chose. -/
def chosenBank (choice : Option (Bank × Word × Catalogue)) : Option (Bank × Word) := choice.map fun x => (x.1, x.2.1)

/-- The catalogue that the load chose, or the empty one. -/
def chosenCatalogue (choice : Option (Bank × Word × Catalogue)) : Catalogue := (choice.map fun x => x.2.2).getD emptyCatalogue

theorem takeLoad_eq (s : State) (choice : Option (Bank × Word × Catalogue)) : s.takeLoad choice =
    { s with
      ct := Vector.replicate 32 freshClient
      cm := { s.cm with active := chosenBank choice }
      cu := { s.cu with catalogue := chosenCatalogue choice, dirty := choice.isNone } } := by
  cases choice with
  | none => rfl
  | some x => rfl

/-- The part right after the catalogue has been chosen, with the mode still to be chosen. -/
def State.chosen (s : State) : State :=
  let choice := chooseBank (classifyBank s.cm.nv 0) (classifyBank s.cm.nv 1)
  { s with
    ct := Vector.replicate 32 freshClient
    cm := { s.cm with active := chosenBank choice }
    cu := { s.cu with catalogue := chosenCatalogue choice, dirty := choice.isNone }
    attn := faultPosted s 1 (faultPosted s 0 s.attn) }

theorem loadCatalogue_eq (s : State) : s.loadCatalogue =
    s.chosen.endBoot (chooseBank (classifyBank s.cm.nv 0) (classifyBank s.cm.nv 1)).isSome := by
  simp only [State.loadCatalogue, postBankFault_eq, takeLoad_eq]
  rfl

/-- The part enters service at the end of BOOT (line of Table 10-3). -/
theorem endBoot_of_autostart {s : State} (found : Bool) (h : found = true ∧ s.mc.startChoice = .auto ∧
    s.cu.catalogue.params.autostart = true) : s.endBoot found =
    { s with
      mc := { s.mc with mode := if s.mc.stopin then .hold else .serving, holdLine := s.mc.stopin, holdCommand := false,
                        startChoice := .auto }
      ge := { s.ge with zones := s.cu.catalogue.zones.map setUpZone }
      lt := { s.lt with tick := some s.cu.catalogue.params.tickPeriod }
      li := { s.li with receiver := .hunt } } := by
  simp only [State.endBoot, if_pos h]
  rfl

/-- The part enters CONFIG at the end of BOOT. -/
theorem endBoot_of_config {s : State} (found : Bool) (h : ¬ (found = true ∧ s.mc.startChoice = .auto ∧
    s.cu.catalogue.params.autostart = true)) : s.endBoot found =
    { s with
      mc := { s.mc with mode := .config, startChoice := .auto }
      lt := { s.lt with tick := some s.cu.catalogue.params.tickPeriod }
      li := { s.li with receiver := .hunt } } := by
  simp only [State.endBoot, if_neg h]
  rfl

/-- What the end of BOOT leaves alone in both cases. -/
structure BootEnded (s t : State) : Prop where
  startChoice : t.mc.startChoice = .auto
  cause : t.mc.cause = s.mc.cause
  cu : t.cu = s.cu
  cm : t.cm = s.cm
  lt : t.lt = { s.lt with tick := some s.cu.catalogue.params.tickPeriod }
  li : t.li = { s.li with receiver := .hunt }
  es : t.es = s.es
  si : t.si = s.si
  ct : t.ct = s.ct
  attn : t.attn = s.attn
  ge : t.ge = { s.ge with zones := t.ge.zones }
  pending : t.pending = s.pending
  mode : t.mc.mode ≠ .boot

theorem endBoot_ended (s : State) (found : Bool) : BootEnded s (s.endBoot found) := by
  by_cases h : found = true ∧ s.mc.startChoice = .auto ∧ s.cu.catalogue.params.autostart = true
  · rw [endBoot_of_autostart found h]
    refine ⟨rfl, rfl, rfl, rfl, rfl, rfl, rfl, rfl, rfl, rfl, rfl, rfl, ?_⟩
    dsimp only
    cases s.mc.stopin <;> decide
  · rw [endBoot_of_config found h]
    exact ⟨rfl, rfl, rfl, rfl, rfl, rfl, rfl, rfl, rfl, rfl, rfl, rfl, Mode.noConfusion⟩

theorem exec_catalogueLoad {s : State} (mode : s.mc.mode = .boot) (rst : s.mc.rst = false) :
    exec .catalogueLoad s = .next s.loadCatalogue := if_pos ⟨mode, rst⟩

/-- A bank has been chosen exactly when there is an active bank. -/
theorem chosenBank_isSome (choice : Option (Bank × Word × Catalogue)) : choice.isSome = true ↔ chosenBank choice ≠ none := by
  cases choice <;> simp [chosenBank]

/-- Settles O5: the two ends of BOOT, one by AUTOSTART and one to CONFIG. -/
theorem loadChoosesMode : Obligations.LoadChoosesMode := by
  unfold Obligations.LoadChoosesMode
  intro s mode rst command line
  refine ⟨_, exec_catalogueLoad mode rst, ?_⟩
  rw [loadCatalogue_eq]
  have ended := endBoot_ended s.chosen (chooseBank (classifyBank s.cm.nv 0) (classifyBank s.cm.nv 1)).isSome
  have found := chosenBank_isSome (chooseBank (classifyBank s.cm.nv 0) (classifyBank s.cm.nv 1))
  by_cases h : (chooseBank (classifyBank s.cm.nv 0) (classifyBank s.cm.nv 1)).isSome = true ∧ s.chosen.mc.startChoice = .auto ∧
      s.chosen.cu.catalogue.params.autostart = true
  · have service := endBoot_of_autostart _ h
    obtain ⟨bank, auto, start⟩ := h
    refine ⟨ended.startChoice, by rw [service], ended.cause, ended.cu ▸ ended.lt, ended.li, ended.es, ended.si, ended.ge, ?_, ?_⟩
    · intro other
      rw [service] at other
      obtain none | config | manual := other
      · exact absurd none (found.1 bank)
      · exact absurd (auto.symm.trans config) (by decide)
      · exact absurd (start.symm.trans manual) (by decide)
    · rw [service]
      exact fun _ _ _ => ⟨rfl, rfl, fun z => by simp [setUpZone]⟩
  · have config := endBoot_of_config _ h
    refine ⟨ended.startChoice, by rw [config]; exact command, ended.cause, ended.cu ▸ ended.lt, ended.li, ended.es, ended.si,
      ended.ge, ?_, ?_⟩
    · rw [config]
      exact fun _ => ⟨rfl, line, rfl⟩
    · rw [config]
      exact fun active auto start => absurd ⟨found.2 active, auto, start⟩ h

/-! ### The commands behind, the clock and the mode -/

theorem Effect.pending {i : Instr} {s t : State} (h : Effect i s t) : t.pending = s.pending := by
  cases h with
  | nothing => rfl
  | tables _ h => exact h.control.pending
  | memory _ h => exact h.leases.pending
  | catalogue _ h => exact h.besides.pending
  | tick => rfl
  | reset => rfl
  | lineReset => rfl
  | rstReleased => rfl
  | load => rw [loadCatalogue_eq, (endBoot_ended _ _).pending]; rfl
  | stopin _ line => exact setLine_pending s line
  | start => rfl
  | stop => rfl
  | command _ present => exact setCommand_pending s present

/-- Settles O1: every command has an effect, and no effect touches the commands behind it. -/
theorem stepRunsFrontCommand : Obligations.StepRunsFrontCommand := by
  unfold Obligations.StepRunsFrontCommand
  refine ⟨fun _ _ => rfl, fun s empty => ?_, fun i s => ?_⟩
  · rw [step, empty]
  · obtain ⟨t, ht, u, v, hu, effect, hv⟩ := exec_acts i s
    exact ⟨t, ht, hv.pending.trans (effect.pending.trans hu.pending)⟩

theorem Effect.clock {i : Instr} {s t : State} (h : Effect i s t) :
    t.lt.clock = s.lt.clock ∨ (i = .tick ∧ t.lt.clock = s.lt.clock + 1#32) ∨ (t.mc.mode = .boot ∧ t.lt.clock = 0#32) := by
  cases h with
  | nothing => exact .inl rfl
  | tables _ h => exact .inl h.control.clock
  | memory _ h => exact .inl (by rw [h.leases.lt])
  | catalogue _ h => exact .inl (by rw [h.besides.lt])
  | tick => exact .inr (.inl ⟨rfl, rfl⟩)
  | reset => exact .inr (.inr ⟨rfl, rfl⟩)
  | lineReset => exact .inr (.inr ⟨rfl, rfl⟩)
  | rstReleased => exact .inl rfl
  | load => exact .inl (by rw [loadCatalogue_eq, (endBoot_ended _ _).lt]; rfl)
  | stopin _ line => exact .inl (setLine_clock s line)
  | start => exact .inl rfl
  | stop => exact .inl rfl
  | command _ present => exact .inl (setCommand_clock s present)

theorem hasPassed_iff (now d : Word) : hasPassed now d = true ↔ (now - d).toNat < 2 ^ 31 := decide_eq_true_iff

/-- The head has passed when the deadline that stands first in the queue has. -/
theorem passedHead_isSome (s : State) : s.passedHead.isSome = true ↔ ∃ (b : BundleId) (rest : List BundleId),
    s.lt.queue = b :: rest ∧ (s.lt.clock - deadlineIn s.ge.bundles b).toNat < 2 ^ 31 := by
  unfold State.passedHead
  cases hq : s.lt.queue with
  | nil => simp
  | cons b rest =>
    dsimp only
    have test : hasPassed s.lt.clock (s.deadlineOf b) = true ↔ (s.lt.clock - deadlineIn s.ge.bundles b).toNat < 2 ^ 31 :=
      hasPassed_iff _ _
    by_cases passed : hasPassed s.lt.clock (s.deadlineOf b) = true
    · rw [if_pos passed]
      exact ⟨fun _ => ⟨b, rest, rfl, test.1 passed⟩, fun _ => rfl⟩
    · rw [if_neg passed]
      refine ⟨fun h => absurd h (by simp), ?_⟩
      rintro ⟨d, l, same, late⟩
      obtain ⟨rfl, rfl⟩ := List.cons.inj same
      exact absurd (test.2 late) passed

/-- Settles O6, from what the end of a tick sets and from the effects that move the clock. -/
theorem tickAdvancesClock : Obligations.TickAdvancesClock := by
  unfold Obligations.TickAdvancesClock
  refine ⟨fun s p running => ?ends, fun s stopped => ?stopped, fun i s t h => ?other⟩
  case ends =>
    have tick : exec .tick s = .next s.endTick := by
      show execTick s = _
      rw [execTick, running]
    exact ⟨s.endTick, tick, rfl, rfl, rfl, rfl, passedHead_isSome _, by simp [State.endTick]⟩
  case stopped =>
    show execTick s = _
    rw [execTick, stopped]
  case other =>
    obtain ⟨u, v, hu, effect, hv⟩ := acts_of_exec h
    rw [hv.clock, hv.mc, ← hu.clock]
    exact effect.clock

/-- Settles O14, from the effect that each row has on the mode. -/
theorem modeChangesByItsEventsAlone : Obligations.ModeChangesByItsEventsAlone := by
  unfold Obligations.ModeChangesByItsEventsAlone
  intro i s t reasons h
  obtain ⟨u, v, hu, effect, hv⟩ := acts_of_exec h
  rw [HoldReasons, ← hu.mc] at reasons
  rw [hv.mc, ← hu.mc]
  clear hu hv h
  cases effect with
  | nothing => exact .inl rfl
  | tables _ h => exact .inl (by rw [h.control.mc])
  | memory _ h => exact .inl (by rw [h.leases.mc])
  | catalogue _ h => exact .inl (by rw [h.besides.mc])
  | tick => exact .inl rfl
  | reset row => exact .inr (.inl ⟨rfl, row⟩)
  | lineReset => exact .inr (.inl ⟨rfl, .inr (.inl rfl)⟩)
  | rstReleased => exact .inl rfl
  | load mode rst => exact .inr (.inr (.inl ⟨mode, rfl⟩))
  | stopin _ line =>
    cases served : u.inService with
    | false => exact .inl (by rw [setLine_of_not_served served])
    | true =>
      rw [setLine_of_served served, followReasons_mode]
      obtain serving | hold := inService_cases served
      · have command : u.mc.holdCommand = false := by simp [serving] at reasons; exact reasons.1
        cases line
        · exact .inl (by simp [command, serving])
        · exact .inr (.inr (.inr (.inr (.inr (.inl ⟨serving, by simp, .inr rfl⟩)))))
      · cases line
        · by_cases command : u.mc.holdCommand = true
          · exact .inl (by simp [command, hold])
          · exact .inr (.inr (.inr (.inr (.inr (.inr ⟨hold, by simp [command, hold], .inr rfl⟩)))))
        · exact .inl (by simp [hold])
  | start mode =>
    refine .inr (.inr (.inr (.inl ⟨mode, ?_, rfl⟩)))
    have mode : u.enterService.mc.mode = if u.mc.stopin = true then Mode.hold else .serving := rfl
    rw [mode]
    cases u.mc.stopin
    · exact .inl rfl
    · exact .inr rfl
  | stop mode => exact .inr (.inr (.inr (.inr (.inl ⟨mode, rfl, rfl⟩))))
  | command served present =>
    rw [State.setCommand, followReasons_mode]
    obtain serving | hold := inService_cases served
    · have line : u.mc.holdLine = false := by simp [serving] at reasons; exact reasons.2
      cases present
      · exact .inl (by simp [line, serving])
      · exact .inr (.inr (.inr (.inr (.inr (.inl ⟨serving, by simp, .inl rfl⟩)))))
    · cases present
      · by_cases line : u.mc.holdLine = true
        · exact .inl (by simp [line, hold])
        · exact .inr (.inr (.inr (.inr (.inr (.inr ⟨hold, by simp [line, hold], .inl rfl⟩)))))
      · exact .inl (by simp [hold])

end Sys2Proof.Machine

/-! The rows of time and of the modes, each as the state it leads to: LAPSE, WAIT_ALARM_EXAMINATION, the lines STOPIN and RST, START and
STOP (Chapters 4 and 10). -/

namespace Sys2Proof.Machine

open Sys2Proof.Claim Sys2Proof.Safety

/-! ### Lapses and wait alarms (R72, R73, R80) -/

/-- Settles O7, from the lapse of a bundle and the examination of the head that follows. -/
theorem lapseEndsHeadBundle : Obligations.LapseEndsHeadBundle := by
  unfold Obligations.LapseEndsHeadBundle
  intro s b rest x opened queue live passed
  have head : s.passedHead = some b := by
    have deadline : s.deadlineOf b = x.deadline := by rw [State.deadlineOf, live]
    rw [State.passedHead, queue]
    exact if_pos ((hasPassed_iff _ _).2 (deadline ▸ passed))
  have lapse : exec .lapse s = .next (s.lapseBundle b).examineHead := by
    show execLapse s = _
    rw [execLapse, if_pos opened, head]
  refine ⟨s.lapseBundle b, _, ?_, lapse, rfl, passedHead_isSome _⟩
  rw [State.lapseBundle, live]
  rfl

/-- Postings one after another change the Attention Set alone. -/
theorem foldl_postAttention {α : Type} (what : α → Attention) (l : List α) : ∀ s : State,
    l.foldl (fun t a => t.postAttention (what a)) s =
      { s with attn := l.foldl (fun a e => a.post (what e) s.lt.clock) s.attn } := by
  induction l with
  | nil => exact fun _ => rfl
  | cons a l ih => exact fun s => (ih _).trans rfl

/-- Settles O8, from the postings of the examination. -/
theorem waitAlarmPostsWaiting : Obligations.WaitAlarmPostsWaiting := by
  unfold Obligations.WaitAlarmPostsWaiting
  intro s opened alarm due
  have exam : exec .waitAlarmExamination s = .next { s.examineWaits with lt := { s.examineWaits.lt with alarmOpen := false } } :=
    if_pos ⟨opened, alarm⟩
  have dueEq : s.alarmDue = due := rfl
  rw [exam, State.examineWaits, dueEq, foldl_postAttention]
  rfl

/-! ### STOPIN (R180) -/

/-- Settles O10: outside service the line alone changes, and in service the reasons decide. -/
theorem stopinMovesTheMode : Obligations.StopinMovesTheMode := by
  unfold Obligations.StopinMovesTheMode
  intro s line row
  have run : exec row s = .next (s.setLine line) := by cases line <;> rfl
  rw [run]
  refine ⟨fun out => ?_, fun serves reason => ?_, fun hold off none => ?_, fun serving off none => ?_⟩
  · rw [setLine_of_not_served out]
  · rw [setLine_of_served serves, State.followReasons, if_pos reason.symm]
  · rw [setLine_of_served (served_of_hold hold), State.followReasons, if_neg (by simp [off, none]), if_pos hold, off]
  · have other : s.mc.mode ≠ .hold := by rw [serving]; decide
    rw [setLine_of_served (served_of_serving serving), State.followReasons, if_neg (by simp [off, none]), if_neg other, off]

/-! ### START and STOP (R177, R178) -/

/-- A write to EXECUTE of a command that stands ready, for a row and its decision. -/
theorem exec_of_ready {row : Instr} {code : Byte} {decision : Block → State → State} {s : State}
    (arm : exec row s = .next (s.execute code decision)) (ready : Ready s code) :
    exec row s = .next (decision s.si.commandBlock (taken s)) :=
  arm.trans (congrArg Host.Outcome.next (execute_of_ready ready))

/-- A response to the command that has been taken, where nothing else changes. -/
theorem taken_respond (s : State) (result : Result) (contents : List Byte) :
    (taken s).respond result contents = decided s s result contents :=
  respond_eq_decided rfl result contents

/-- Settles O12, one case for each check of START. -/
theorem startEntersService : Obligations.StartEntersService := by
  unfold Obligations.StartEntersService
  intro s ready mode
  have config : ¬ (taken s).mc.mode ≠ .config := not_not.2 mode
  rw [exec_of_ready rfl ready]
  refine ⟨fun idle clean => ?enters, fun running => ?busy, fun idle dirty => ?uncommitted⟩
  case enters =>
    have idle' : ¬ (taken s).cm.commit.isSome = true := by simpa [taken] using idle
    have clean' : ¬ (taken s).cu.dirty = true := by simpa [taken] using clean
    have bits : modeBits (if s.mc.stopin = true then Mode.hold else .serving) = if s.mc.stopin = true then 0x03#8 else 0x02#8 := by
      cases s.mc.stopin <;> rfl
    rw [decideStart, if_neg config, if_neg idle', if_neg clean', respond_eq_decided (s := s) (t := (taken s).enterService) rfl, ← bits]
    rfl
  case busy =>
    have running' : (taken s).cm.commit.isSome = true := Option.isSome_iff_ne_none.2 running
    rw [decideStart, if_neg config, if_pos running']
    exact congrArg _ (taken_respond s _ _)
  case uncommitted =>
    have idle' : ¬ (taken s).cm.commit.isSome = true := by simpa [taken] using idle
    rw [decideStart, if_neg config, if_neg idle', if_pos (show (taken s).cu.dirty = true from dirty)]
    exact congrArg _ (taken_respond s _ _)

theorem fencedZones_eq (s : State) : s.fencedZones = s.ge.zones.toList.countP fun z => decide (z.fences ≠ 0) :=
  List.countP_congr fun z _ => by simp [Nat.one_le_iff_ne_zero]

theorem quiescent_iff (s : State) : s.quiescent = true ↔ liveIds s = [] ∧ s.ge.entries = [] ∧
    (s.ge.zones.toList.countP fun z => decide (z.fences ≠ 0)) = 0 := by
  rw [← fencedZones_eq]
  simp [State.quiescent, State.liveBundles, and_assoc]

/-- Settles O13: STOP of a part that is quiescent, and of one that is not. -/
theorem stopNeedsQuiescence : Obligations.StopNeedsQuiescence := by
  unfold Obligations.StopNeedsQuiescence
  intro s ready mode fenced ends
  have serving : ¬ (taken s).mc.mode ≠ .serving := not_not.2 mode
  have quiet : (taken s).quiescent = true ↔ liveIds s = [] ∧ s.ge.entries = [] ∧ fenced = 0 := quiescent_iff (taken s)
  rw [exec_of_ready rfl ready]
  refine ⟨fun h => ?stops, fun h => ?refused⟩
  case stops =>
    have clients : (taken s).stopService.ct = Vector.ofFn fun c : Slot =>
        if ends c then { state := .absent, session := none, misses := 0, last := none, outbox := [],
                         nextNotice := s.ct[c].nextNotice } else s.ct[c] := rfl
    have count : (taken s).activeClients.length = (List.finRange 32).countP ends := List.countP_eq_length_filter.symm
    rw [decideStop, if_neg serving, if_neg (by simp [quiet.2 h]), respond_eq_decided (s := s) (t := (taken s).stopService) rfl, count]
    simp only [decided, ← clients]
    rfl
  case refused =>
    have busy : (!(taken s).quiescent) = true := by
      rw [Bool.not_eq_true']
      exact Bool.eq_false_iff.2 (mt quiet.1 h)
    rw [decideStop, if_neg serving, if_pos busy, taken_respond, fencedZones_eq]
    rfl

/-! ### The part in reset (R173) -/

/-- A part in BOOT is not in service. -/
theorem not_served_of_boot {s : State} (h : s.mc.mode = .boot) : s.inService = false := by simp [State.inService, h]

/-- With no write transaction at EXECUTE no command is taken. -/
theorem execute_of_inactive {s : State} (port : s.si.port = .inactive) (code : Byte) (decision : Block → State → State) :
    s.execute code decision = s := by simp [State.execute, State.atExecute, port]

theorem deliverReply_of_gap {s : State} (gap : s.es.exchange = .gap) (reply : Reply) : s.deliverReply reply = s := by
  rw [State.deliverReply, gap]

theorem readThrough_of_inactive {s : State} (port : s.si.port = .inactive) (a : PortAddress) : s.readThrough a = s := by
  rw [State.readThrough, port]

/-- The rows that a part held in reset follows: a power-on reset and the two lines. -/
def ActsInReset (i : Instr) : Prop := i = .powerOnReset ∨ i = .rstReleased ∨ i = .stopinAsserted ∨ i = .stopinDeasserted

/-- While RST is asserted every other row names an event that cannot occur, and changes nothing. -/
theorem exec_in_reset {i : Instr} {s : State} (held : s.mc.rst = true) (h : ResetValues s) (lapse : s.lt.lapseOpen = false)
    (alarm : s.lt.alarmOpen = false) (other : ¬ ActsInReset i) : exec i s = .next s := by
  have boot := h.mode.1
  have port := h.port.1
  have gap := h.exchange.1
  have off := h.link.1
  have transmitter := h.link.2.2
  have mailbox := h.window.1
  have idle := h.memory.2.2
  have deaf : s.hears = false := by simp [State.hears, off, Receiver.listening]
  have closed : s.atExecute = false := by simp [State.atExecute, port]
  have command : ∀ code decision, Host.Outcome.next (φ := Fault) (ρ := Refusal) (s.execute code decision) = .next s :=
    fun code decision => congrArg _ (execute_of_inactive port code decision)
  have reply : ∀ r, Host.Outcome.next (φ := Fault) (ρ := Refusal) (s.deliverReply r) = .next s :=
    fun r => congrArg _ (deliverReply_of_gap gap r)
  have read : ∀ a, Host.Outcome.next (φ := Fault) (ρ := Refusal) (s.readThrough a) = .next s :=
    fun a => congrArg _ (readThrough_of_inactive port a)
  cases i with
  | powerOnReset | rstReleased | stopinAsserted | stopinDeasserted => exact absurd (by simp [ActsInReset]) other
  | lineReset => exact if_pos held
  | catalogueLoad => exact if_neg (by simp [held])
  | tick => simp [exec, execTick, h.clock.2.1]
  | lapse => simp [exec, execLapse, lapse]
  | waitAlarmExamination => simp [exec, execWaitAlarmExamination, alarm]
  | characterReceived => simp [exec, execCharacterReceived, deaf]
  | framingError => simp [exec, execFramingError, deaf]
  | gapLimitExpiry => simp [exec, execGapLimitExpiry, off, Receiver.inFrame]
  | lineReturnsTo1 => simp [exec, execLineReturnsTo1, off, Receiver.listening]
  | beginExchange => simp [exec, execBeginExchange, not_served_of_boot boot]
  | transmitDone => simp [exec, execTransmitDone, transmitter]
  | replyWindowTimeout => simp [exec, execReplyWindowTimeout, gap]
  | sendAnswer => simp [exec, execSendAnswer, gap]
  | idle | malformedRequest | join | leave | acquire | cancel | renew | release | status => exact reply _
  | commitErasePageDone => simp [exec, execCommitErasePageDone, idle]
  | commitProgramPageDone => simp [exec, execCommitProgramPageDone, idle]
  | commitMarkGenerationDone => simp [exec, execCommitMarkGenerationDone, idle]
  | commitMarkMarkerDone => simp [exec, execCommitMarkMarkerDone, idle]
  | nvweInactive => simp [exec, execNvweInactive, idle]
  | badCommand => simp [exec, execBadCommand, closed]
  | executeOverrun => simp [exec, execExecuteOverrun, closed]
  | publishResponse => simp [exec, execPublishResponse, State.publish, mailbox]
  | readStatus1 | readLeaseClockLatch | readResultByte => exact read _
  | writeAlertEnable => simp [exec, execWriteAlertEnable, port]
  | writeRegister => simp [exec, execWriteRegister, port]
  | transactionBegin => simp [exec, execTransactionBegin, held]
  | transactionEnd => simp [exec, execTransactionEnd, port]
  | setZone | setClient | setParameters | clearCatalogue | revert | readZoneRecord | readClientRecord | readParameters | freeze
  | commit | closeZone | openZone | clearFence | revokeBundle | readZoneState | readBundle | withdrawRequest | readPending
  | readLeaseClock | barClient | unbarClient | readClientState | fetchAttention | start | stop | hold | resume | restart =>
    exact command _ _

theorem followReasons_rst (s : State) : s.followReasons.mc.rst = s.mc.rst := by
  obtain ⟨-, h⟩ | ⟨-, -, h⟩ | ⟨-, -, h⟩ := followReasons_cases s
  · rw [h]
  · rw [h, (requestScan_tables _).mc]
  · rw [h]

theorem endBoot_rst (s : State) (found : Bool) : (s.endBoot found).mc.rst = s.mc.rst := by
  unfold State.endBoot
  dsimp only
  split
  · rfl
  · rfl

/-- No row but LINE_RESET asserts RST. -/
theorem Effect.rst {i : Instr} {s t : State} (h : Effect i s t) (other : i ≠ .lineReset) (released : s.mc.rst = false) :
    t.mc.rst = false := by
  cases h with
  | lineReset => exact absurd rfl other
  | nothing => exact released
  | tables _ h => rw [h.control.mc, released]
  | memory _ h => rw [h.leases.mc, released]
  | catalogue _ h => rw [h.besides.mc, released]
  | tick => exact released
  | reset => exact released
  | rstReleased => rfl
  | load => rw [loadCatalogue_eq, endBoot_rst]; exact released
  | stopin _ line =>
    cases served : s.inService
    · rw [setLine_of_not_served served]; exact released
    · rw [setLine_of_served served, followReasons_rst]; exact released
  | start => exact released
  | stop => exact released
  | command _ present => rw [State.setCommand, followReasons_rst]; exact released

/-- Settles O3: in reset only four rows do anything, and outside it only LINE_RESET asserts RST. -/
theorem rstHoldsPartInReset : Obligations.RstHoldsPartInReset := by
  unfold Obligations.RstHoldsPartInReset
  intro s t held h
  unfold step at h
  split at h
  · obtain rfl := Host.Outcome.next.inj h
    exact held
  · next i rest _ =>
    intro asserted
    cases rst : s.mc.rst with
    | true =>
      obtain ⟨values, lapse, alarm⟩ := held rst
      have values : ResetValues { s with pending := rest } :=
        ⟨values.mode, values.dirty, values.memory, values.zones, values.bundles, values.counters, values.entries, values.clock,
          values.clients, values.attentions, values.window, values.blocks, values.port, values.link, values.lines, values.exchange⟩
      by_cases acts : ActsInReset i
      · obtain rfl | rfl | rfl | rfl := acts
        · obtain rfl := Host.Outcome.next.inj h
          exact ⟨takeReset_values _ _ _ _, rfl, rfl⟩
        · obtain rfl := Host.Outcome.next.inj h
          exact absurd asserted (by simp)
        · obtain rfl := Host.Outcome.next.inj h
          rw [setLine_of_not_served (not_served_of_boot values.mode.1)]
          exact ⟨resetValues_lines values true s.mc.rst, lapse, alarm⟩
        · obtain rfl := Host.Outcome.next.inj h
          rw [setLine_of_not_served (not_served_of_boot values.mode.1)]
          exact ⟨resetValues_lines values false s.mc.rst, lapse, alarm⟩
      · rw [exec_in_reset (i := i) (s := { s with pending := rest }) rst values lapse alarm acts] at h
        obtain rfl := Host.Outcome.next.inj h
        exact ⟨values, lapse, alarm⟩
    | false =>
      by_cases line : i = .lineReset
      · subst line
        rw [show exec .lineReset { s with pending := rest } = .next _ from if_neg (by simp [rst])] at h
        obtain rfl := Host.Outcome.next.inj h
        exact ⟨resetValues_rst (takeReset_values _ _ _ _) true, rfl, rfl⟩
      · obtain ⟨u, v, hu, effect, hv⟩ := acts_of_exec h
        have released := effect.rst line (by rw [hu.mc]; exact rst)
        rw [hv.mc, released] at asserted
        exact absurd asserted (by decide)

end Sys2Proof.Machine

/-! The grant scan (R53 to R55): what one grant changes, what the grants of a scan change together, and which entries a scan grants. -/

namespace Sys2Proof.Machine

open Sys2Proof.Claim Sys2Proof.Safety

/-! ### Slots and zones as propositions -/

/-- The lowest empty slot is found by going through the slots. -/
theorem find_finRange_eq_some {n : Nat} {p : Fin n → Bool} {b : Fin n} :
    (List.finRange n).find? p = some b ↔ p b = true ∧ ∀ d < b, p d = false := by
  rw [List.find?_eq_some_iff_append]
  constructor
  · rintro ⟨hb, front, back, split, before⟩
    refine ⟨hb, fun d hd => ?_⟩
    have sorted : (front ++ b :: back).Pairwise (· < ·) := split ▸ List.pairwise_lt_finRange n
    have mem : d ∈ front ++ b :: back := split ▸ List.mem_finRange d
    obtain front' | rfl | back' := (List.mem_append.1 mem).imp_right List.mem_cons.1
    · simpa using before d front'
    · exact absurd hd (lt_irrefl _)
    · have := (List.pairwise_cons.1 (List.pairwise_append.1 sorted).2.1).1 d back'
      exact absurd hd (not_lt.2 this.le)
  · rintro ⟨hb, before⟩
    obtain ⟨front, back, split⟩ := List.append_of_mem (List.mem_finRange b)
    refine ⟨hb, front, back, split, fun d hd => ?_⟩
    have sorted : (front ++ b :: back).Pairwise (· < ·) := split ▸ List.pairwise_lt_finRange n
    simpa using before d ((List.pairwise_append.1 sorted).2.2 d hd b (by simp))

theorem freeSlot_eq_some {s : State} {b : BundleId} : s.freeSlot = some b ↔ LowestEmpty s b := by
  rw [State.freeSlot, find_finRange_eq_some]
  simp [LowestEmpty, Option.isSome_iff_ne_none]

theorem freeSlot_eq_none {s : State} : s.freeSlot = none ↔ TableFull s := by
  simp [State.freeSlot, TableFull]

theorem zoneAvailable_iff {s : State} {z : ZoneId} : s.zoneAvailable z = true ↔ Available s z := by
  simp [State.zoneAvailable, Available, and_assoc]

theorem zoneAvailable_eq_false {s : State} {z : ZoneId} : s.zoneAvailable z = false ↔ ¬ Available s z := by
  rw [← zoneAvailable_iff, Bool.not_eq_true]

/-! ### A notice in the words of the statements -/

/-- The post of a notice, as one record update. -/
theorem postNotice_eq (s : State) (c : Slot) (body : NoticeBody) : s.postNotice c body =
    { s with
      ct := s.ct.set c (noticed s c body)
      attn := if TakesNotices s c ∧ 8 ≤ s.ct[c].outbox.length then s.attn.post (.resync c) s.lt.clock else s.attn } := by
  by_cases takes : TakesNotices s c
  · by_cases room : s.ct[c].outbox.length < 8
    · have full : ¬ 8 ≤ s.ct[c].outbox.length := Nat.not_le.2 room
      rw [postNotice_of_room takes room, noticed, if_pos takes, if_pos room, if_neg fun h => full h.2]
      rfl
    · have full := Nat.not_lt.1 room
      rw [postNotice_of_full takes full, noticed, if_pos takes, if_neg room, if_pos ⟨takes, full⟩]
      rfl
  · have same : s.ct.set c s.ct[c] = s.ct := by simp
    rw [postNotice_of_not_takesNotices takes, noticed, if_neg takes, if_neg fun h => takes h.1, same]

/-- What a notice makes of a record rests on the record and on the catalogue. -/
theorem noticed_congr {s t : State} {c : Slot} (cu : t.cu = s.cu) (record : t.ct[c] = s.ct[c]) (body : NoticeBody) :
    noticed t c body = noticed s c body := by
  have takes : TakesNotices t c ↔ TakesNotices s c := by rw [TakesNotices, TakesNotices, cu, record]
  by_cases h : TakesNotices s c
  · rw [noticed, noticed, if_pos h, if_pos (takes.2 h), record]
  · rw [noticed, noticed, if_neg h, if_neg (mt takes.1 h), record]

/-! ### One grant (R55) -/

/-- The bundle that a grant of the entry creates. -/
def grantedBundle (s : State) (e : Entry) : Bundle := newBundle e.client e.tag e.term e.zones s.nextToken s.lt.clock

/-- The notice of a grant. -/
def grantNotice (s : State) (b : BundleId) (e : Entry) : NoticeBody :=
  .grant e.tag b s.nextToken (lowHalf (s.lt.clock + e.term.zeroExtend 32))

/-- A grant, as one record update. -/
theorem grantEntry_eq (s : State) (b : BundleId) (e : Entry) : s.grantEntry b e =
    let bundles := s.ge.bundles.set b (some (grantedBundle s e))
    { s with
      ge := { s.ge with
        tokenCounter := s.nextToken + 1#16
        bundles := bundles
        entries := s.ge.entries.erase e
        zones := Vector.ofFn fun z : ZoneId =>
          { s.ge.zones[z] with holders := s.ge.zones[z].holders ++ List.replicate (e.zones.count z) b } }
      lt := { s.lt with queue := insertByDeadline (deadlineIn bundles) b s.lt.queue }
      ct := s.ct.set e.client (noticed s e.client (grantNotice s b e))
      attn := if TakesNotices s e.client ∧ 8 ≤ s.ct[e.client].outbox.length then s.attn.post (.resync e.client) s.lt.clock
        else s.attn } := by
  have created := createBundle_eq s b e.client e.tag e.term e.zones
  have frame := createBundle_tables s b e.client e.tag e.term e.zones
  have clients : (s.createBundle b e.client e.tag e.term e.zones).ct = s.ct := by rw [created]
  have attentions : (s.createBundle b e.client e.tag e.term e.zones).attn = s.attn := by rw [created]
  have whole : s.grantEntry b e = ((s.createBundle b e.client e.tag e.term e.zones).setEntries
      ((s.createBundle b e.client e.tag e.term e.zones).ge.entries.erase e)).postNotice e.client (grantNotice s b e) := rfl
  have record := noticed_congr (s := s) (c := e.client)
    (t := (s.createBundle b e.client e.tag e.term e.zones).setEntries ((s.createBundle b e.client e.tag e.term e.zones).ge.entries.erase e))
    frame.cu (by rw [setEntries_ct, clients]) (grantNotice s b e)
  rw [whole, postNotice_eq, record]
  simp only [TakesNotices, setEntries_ct, setEntries_cu, setEntries_attn, setEntries_lt, frame.cu, clients, attentions,
    frame.clock]
  simp only [created, grantedBundle, State.setEntries]

theorem grantEntry_bundle (s : State) (b : BundleId) (e : Entry) (d : BundleId) :
    (s.grantEntry b e).ge.bundles[d] = if d = b then some (grantedBundle s e) else s.ge.bundles[d] := by
  rw [grantEntry_eq]
  exact vector_get_set _ _ _ _

theorem grantEntry_zone (s : State) (b : BundleId) (e : Entry) (z : ZoneId) : (s.grantEntry b e).ge.zones[z] =
    { s.ge.zones[z] with holders := s.ge.zones[z].holders ++ List.replicate (e.zones.count z) b } := by
  rw [grantEntry_eq]
  exact vector_get_ofFn _ _

theorem grantEntry_client (s : State) (b : BundleId) (e : Entry) (c : Slot) : (s.grantEntry b e).ct[c] =
    if c = e.client then noticed s e.client (grantNotice s b e) else s.ct[c] := by
  rw [grantEntry_eq]
  exact vector_get_set _ _ _ _

theorem grantEntry_entries (s : State) (b : BundleId) (e : Entry) : (s.grantEntry b e).ge.entries = s.ge.entries.erase e := by
  rw [grantEntry_eq]

theorem grantEntry_queue (s : State) (b : BundleId) (e : Entry) : (s.grantEntry b e).lt.queue =
    insertByDeadline (deadlineIn (s.grantEntry b e).ge.bundles) b s.lt.queue := by
  rw [grantEntry_eq]

theorem grantEntry_attn (s : State) (b : BundleId) (e : Entry) : (s.grantEntry b e).attn =
    if TakesNotices s e.client ∧ 8 ≤ s.ct[e.client].outbox.length then s.attn.post (.resync e.client) s.lt.clock
    else s.attn := by
  rw [grantEntry_eq]

/-- Among entries of distinct clients an entry is named by its client. -/
theorem eq_of_client {l : List Entry} (distinct : (l.map fun e => e.client).Nodup) {e o : Entry} (he : e ∈ l) (ho : o ∈ l)
    (same : o.client = e.client) : o = e := (List.inj_on_of_nodup_map distinct) ho he same

theorem entries_nodup {l : List Entry} (distinct : (l.map fun e => e.client).Nodup) : l.Nodup := distinct.of_map _

/-- An entry leaves a list of distinct clients as its client's entry. -/
theorem erase_eq_filter_client {l : List Entry} (distinct : (l.map fun e => e.client).Nodup) {e : Entry} (he : e ∈ l) :
    l.erase e = l.filter fun o => decide (o.client ≠ e.client) := by
  rw [(entries_nodup distinct).erase_eq_filter]
  refine List.filter_congr fun o ho => ?_
  by_cases same : o.client = e.client
  · simp [eq_of_client distinct he ho same]
  · have ne : o ≠ e := fun h => same (h ▸ rfl)
    simp [same, ne]

/-- With distinct clients a grant into the lowest empty slot is the grant of the statements. -/
theorem grantEntry_eq_scanGranted {s : State} {b : BundleId} {e : Entry} (slot : s.freeSlot = some b)
    (distinct : (s.ge.entries.map fun e => e.client).Nodup) (mem : e ∈ s.ge.entries) : s.grantEntry b e = scanGranted s e := by
  have entries : (s.createBundle b e.client e.tag e.term e.zones).ge.entries = s.ge.entries := by rw [createBundle_eq]
  rw [State.freeSlot] at slot
  rw [scanGranted, slot]
  simp only [State.grantEntry, entries, erase_eq_filter_client distinct mem, entryGone]
  rfl

/-! ### Grants one after another -/

/-- Grants one after another, each of an entry of the list whose zones are available, into the lowest empty slot. -/
inductive Grants : State → List Entry → State → Prop
  | nil (s : State) : Grants s [] s
  | cons {s t : State} {b : BundleId} {e : Entry} {l : List Entry} (slot : s.freeSlot = some b) (mem : e ∈ s.ge.entries)
      (available : ∀ z ∈ e.zones, s.zoneAvailable z = true) (rest : Grants (s.grantEntry b e) l t) : Grants s (e :: l) t

/-- The entries of the list have distinct clients. -/
abbrev DistinctClients (s : State) : Prop := (s.ge.entries.map fun e => e.client).Nodup

theorem grantEntry_distinct {s : State} (b : BundleId) (e : Entry) (distinct : DistinctClients s) :
    DistinctClients (s.grantEntry b e) := by
  rw [DistinctClients, grantEntry_entries]
  exact distinct.sublist (List.erase_sublist.map _)

/-- After a grant no entry of its client stands in the list. -/
theorem grantEntry_client_gone {s : State} {b : BundleId} {e : Entry} (distinct : DistinctClients s) (mem : e ∈ s.ge.entries)
    {o : Entry} (ho : o ∈ (s.grantEntry b e).ge.entries) : o.client ≠ e.client := by
  rw [grantEntry_entries, erase_eq_filter_client distinct mem, List.mem_filter] at ho
  simpa using ho.2

namespace Grants

variable {s t : State} {g : List Entry}

theorem tables (h : Grants s g t) : TablesOnly s t := by
  induction h with
  | nil s => exact .refl s
  | cons slot mem available rest ih => exact (grantEntry_tables _ _ _).trans ih

theorem mem (h : Grants s g t) : ∀ e ∈ g, e ∈ s.ge.entries := by
  induction h with
  | nil s => simp
  | @cons s t b e l slot mem available rest ih =>
    intro o ho
    obtain rfl | ho := List.mem_cons.1 ho
    · exact mem
    · exact List.mem_of_mem_erase (grantEntry_entries s b e ▸ ih o ho)

theorem other_clients {b : BundleId} {e : Entry} (distinct : DistinctClients s) (mem : e ∈ s.ge.entries)
    (h : Grants (s.grantEntry b e) g t) : ∀ o ∈ g, o.client ≠ e.client :=
  fun o ho => grantEntry_client_gone distinct mem (h.mem o ho)

/-- The grants are those of the statements. -/
theorem eq_foldl (h : Grants s g t) (distinct : DistinctClients s) : t = g.foldl scanGranted s := by
  induction h with
  | nil s => rfl
  | cons slot mem available rest ih =>
    rw [List.foldl_cons, ← grantEntry_eq_scanGranted slot distinct mem]
    exact ih (grantEntry_distinct _ _ distinct)

/-- A bundle stays. -/
theorem bundle_stays (h : Grants s g t) {b : BundleId} {y : Bundle} : s.ge.bundles[b] = some y → t.ge.bundles[b] = some y := by
  induction h with
  | nil s => exact id
  | @cons s t d e l slot mem available rest ih =>
    intro hb
    have ne : b ≠ d := fun eq => by
      rw [eq, (freeSlot_eq_some.1 slot).1] at hb
      exact absurd hb (by simp)
    exact ih (by rw [grantEntry_bundle, if_neg ne, hb])

/-- A full table stays full. -/
theorem tableFull (h : Grants s g t) (full : TableFull s) : TableFull t := by
  intro b
  obtain ⟨y, hy⟩ := Option.ne_none_iff_exists'.1 (full b)
  rw [h.bundle_stays hy]
  simp

/-- An unavailable zone stays unavailable. -/
theorem unavailable (h : Grants s g t) {z : ZoneId} : ¬ Available s z → ¬ Available t z := by
  induction h with
  | nil s => exact id
  | @cons s t d e l slot mem available rest ih =>
    refine fun hz => ih fun later => hz ?_
    have record := grantEntry_zone s d e z
    obtain ⟨closed, fences, room⟩ := later
    rw [record] at closed fences room
    rw [(grantEntry_tables s d e).cu, List.length_append] at room
    exact ⟨closed, fences, by omega⟩

/-- A bundle that is new is the grant of one of the entries. -/
theorem new_bundle (h : Grants s g t) {b : BundleId} {y : Bundle} : s.ge.bundles[b] = none → t.ge.bundles[b] = some y →
    ∃ e ∈ g, GrantOf e s.lt.clock y := by
  induction h with
  | nil s => exact fun empty new => absurd (empty.symm.trans new) (by simp)
  | @cons s t d e l slot mem available rest ih =>
    intro empty new
    by_cases here : b = d
    · have first := rest.bundle_stays (b := b) (y := grantedBundle s e) (by rw [grantEntry_bundle, if_pos here])
      obtain rfl := Option.some.inj (new.symm.trans first)
      exact ⟨e, by simp, rfl, rfl, rfl, rfl, rfl, rfl⟩
    · obtain ⟨o, ho, grant⟩ := ih (by rw [grantEntry_bundle, if_neg here, empty]) new
      exact ⟨o, by simp [ho], (grantEntry_tables s d e).clock ▸ grant⟩

/-- The record of a client with no granted entry stays. -/
theorem other_client (h : Grants s g t) {c : Slot} : (∀ e ∈ g, e.client ≠ c) → t.ct[c] = s.ct[c] := by
  induction h with
  | nil s => exact fun _ => rfl
  | @cons s t d e l slot mem available rest ih =>
    intro others
    rw [ih fun o ho => others o (by simp [ho]), grantEntry_client, if_neg (Ne.symm (others e (by simp)))]

/-- A token that no bundle carries later, none carries now. -/
theorem tokenFree (h : Grants s g t) {token : Half} (free : TokenFree t token) : TokenFree s token :=
  fun b y hb => free b y (h.bundle_stays hb)

theorem one (s : State) {b : BundleId} {e : Entry} (slot : s.freeSlot = some b) (mem : e ∈ s.ge.entries)
    (available : ∀ z ∈ e.zones, s.zoneAvailable z = true) : Grants s [e] (s.grantEntry b e) :=
  .cons slot mem available (.nil _)

/-- Each granted entry has its bundle in a slot that was empty, and its client the notice of the grant. -/
theorem granted (h : Grants s g t) : DistinctClients s → ∀ e ∈ g, ∃ (b : BundleId) (y : Bundle), s.ge.bundles[b] = none ∧
    t.ge.bundles[b] = some y ∧ GrantOf e s.lt.clock y ∧ y.token ≠ 0#16 ∧ TokenFree s y.token ∧
    t.ct[e.client] = noticed s e.client (.grant e.tag b y.token (y.deadline.extractLsb' 0 16)) := by
  induction h with
  | nil s => simp
  | @cons s t d e l slot mem available rest ih =>
    intro distinct o ho
    have others := other_clients distinct mem rest
    have clock := (grantEntry_tables s d e).clock
    obtain rfl | ho := List.mem_cons.1 ho
    · refine ⟨d, grantedBundle s o, (freeSlot_eq_some.1 slot).1,
        rest.bundle_stays (by rw [grantEntry_bundle, if_pos rfl]), ⟨rfl, rfl, rfl, rfl, rfl, rfl⟩, nextToken_ne_zero s,
        nextToken_free s, ?_⟩
      rw [rest.other_client others, grantEntry_client, if_pos rfl]
      congr 1
    · obtain ⟨b, y, empty, new, grant, token, free, record⟩ := ih (grantEntry_distinct d e distinct) o ho
      have ne : b ≠ d := fun eq => by
        rw [grantEntry_bundle, if_pos eq] at empty
        exact absurd empty (by simp)
      refine ⟨b, y, by rwa [grantEntry_bundle, if_neg ne] at empty, new, clock ▸ grant, token,
        (one s slot mem available).tokenFree free, ?_⟩
      rw [record]
      exact noticed_congr (grantEntry_tables s d e).cu (by rw [grantEntry_client, if_neg (others o ho)]) _

/-- RESYNC is posted for every granted client that takes notices and whose outbox is full. -/
theorem attn (h : Grants s g t) : DistinctClients s → t.attn =
    (g.filter fun e => decide (TakesNotices s e.client ∧ 8 ≤ s.ct[e.client].outbox.length)).foldl
      (fun a e => a.post (.resync e.client) s.lt.clock) s.attn := by
  induction h with
  | nil s => exact fun _ => rfl
  | @cons s t d e l slot mem available rest ih =>
    intro distinct
    have others := other_clients distinct mem rest
    have same : (l.filter fun o => decide (TakesNotices (s.grantEntry d e) o.client ∧
          8 ≤ (s.grantEntry d e).ct[o.client].outbox.length)) =
        l.filter fun o => decide (TakesNotices s o.client ∧ 8 ≤ s.ct[o.client].outbox.length) := by
      refine List.filter_congr fun o ho => ?_
      have record : (s.grantEntry d e).ct[o.client] = s.ct[o.client] := by rw [grantEntry_client, if_neg (others o ho)]
      simp only [TakesNotices, record, (grantEntry_tables s d e).cu]
    rw [ih (grantEntry_distinct d e distinct), same, (grantEntry_tables s d e).clock, grantEntry_attn, List.filter_cons]
    by_cases full : TakesNotices s e.client ∧ 8 ≤ s.ct[e.client].outbox.length
    · rw [if_pos full, if_pos (decide_eq_true full), List.foldl_cons]
    · rw [if_neg full, if_neg (by simpa using full)]

/-- The holders that join a zone are the new bundles that have it. -/
theorem zone (h : Grants s g t) (z : ZoneId) : ∃ new : List BundleId,
    t.ge.zones[z] = { s.ge.zones[z] with holders := s.ge.zones[z].holders ++ new } ∧
      ∀ b : BundleId, b ∈ new ↔ s.ge.bundles[b] = none ∧ ∃ y, t.ge.bundles[b] = some y ∧ z ∈ y.zones := by
  induction h with
  | nil s =>
    refine ⟨[], by simp, fun b => ⟨by simp, ?_⟩⟩
    rintro ⟨empty, y, new, -⟩
    exact absurd (empty.symm.trans new) (by simp)
  | @cons s t d e l slot mem available rest ih =>
    obtain ⟨new, record, joined⟩ := ih
    refine ⟨List.replicate (e.zones.count z) d ++ new, ?_, fun b => ?_⟩
    · rw [record, grantEntry_zone, List.append_assoc]
    · have first : t.ge.bundles[d] = some (grantedBundle s e) := rest.bundle_stays (by rw [grantEntry_bundle, if_pos rfl])
      rw [List.mem_append, List.mem_replicate, joined, grantEntry_bundle]
      by_cases here : b = d
      · subst here
        simp [(freeSlot_eq_some.1 slot).1, first, grantedBundle, newBundle, List.count_eq_zero, -Fin.getElem_fin]
      · simp [here, -Fin.getElem_fin]

/-- The bundles in the queue keep their order. -/
theorem queue_sublist (h : Grants s g t) : s.lt.queue.Sublist t.lt.queue := by
  induction h with
  | nil s => exact .refl _
  | @cons s t d e l slot mem available rest ih =>
    refine List.Sublist.trans ?_ ih
    rw [grantEntry_queue]
    exact sublist_insertByDeadline _ _ _

/-- The bundles that join the queue are the new ones. -/
theorem mem_queue (h : Grants s g t) (b : BundleId) : b ∈ t.lt.queue ↔ b ∈ s.lt.queue ∨
    (s.ge.bundles[b] = none ∧ ∃ y, t.ge.bundles[b] = some y) := by
  induction h with
  | nil s =>
    refine ⟨.inl, ?_⟩
    rintro (h | ⟨empty, y, new⟩)
    · exact h
    · exact absurd (empty.symm.trans new) (by simp)
  | @cons s t d e l slot mem available rest ih =>
    have first : t.ge.bundles[d] = some (grantedBundle s e) := rest.bundle_stays (by rw [grantEntry_bundle, if_pos rfl])
    rw [ih, grantEntry_queue, mem_insertByDeadline, grantEntry_bundle]
    by_cases here : b = d
    · subst here
      simp [(freeSlot_eq_some.1 slot).1, first, -Fin.getElem_fin]
    · simp [here, -Fin.getElem_fin]

/-- Grants keep the arrival counter. -/
theorem arrivalCounter (h : Grants s g t) : t.ge.arrivalCounter = s.ge.arrivalCounter := by
  induction h with
  | nil s => rfl
  | @cons s t d e l slot mem available rest ih => rw [ih, grantEntry_eq]

end Grants

/-! ### The walk (R54) -/

/-- What a walk over the entries `l` comes to, behind the entries `kept` that stay, when it grants `g` and leads to `t`. -/
structure Walked (kept l g : List Entry) (reserved : List ZoneId) (t : State) : Prop where
  sublist : g.Sublist l
  entries : t.ge.entries = kept ++ l.filter fun e => decide (e ∉ g)
  unreserved : ∀ e ∈ g, ∀ z ∈ e.zones, z ∉ reserved
  apart : l.Pairwise fun o e => e ∈ g → o ∉ g → ∀ z ∈ e.zones, z ∉ o.zones
  stays : ∀ older e younger, l = older ++ e :: younger → e ∉ g →
    TableFull t ∨ ∃ z ∈ e.zones, ¬ Available t z ∨ (∃ o ∈ kept, z ∈ o.zones) ∨ ∃ o ∈ older, o ∉ g ∧ z ∈ o.zones

theorem walked_nil (kept : List Entry) (reserved : List ZoneId) {t : State} (entries : t.ge.entries = kept) :
    Walked kept [] [] reserved t where
  sublist := .refl _
  entries := by simp [entries]
  unreserved := by simp
  apart := .nil
  stays older e younger h := absurd h (by simp)

/-- With every slot taken the walk ends. -/
theorem walked_full (kept l : List Entry) (reserved : List ZoneId) {t : State} (entries : t.ge.entries = kept ++ l)
    (full : TableFull t) : Walked kept l [] reserved t where
  sublist := List.nil_sublist l
  entries := by simp [entries]
  unreserved := by simp
  apart := List.pairwise_of_forall (by simp)
  stays _ _ _ _ _ := .inl full

/-- An entry is granted and the walk goes on. -/
theorem Walked.grant {kept l g : List Entry} {reserved : List ZoneId} {t : State} {e : Entry} (h : Walked kept l g reserved t)
    (fresh : e ∉ l) (free : ∀ z ∈ e.zones, z ∉ reserved) : Walked kept (e :: l) (e :: g) reserved t where
  sublist := h.sublist.cons_cons e
  entries := by
    have same : (l.filter fun o => decide (o ∉ e :: g)) = l.filter fun o => decide (o ∉ g) := by
      refine List.filter_congr fun o ho => ?_
      have ne : o ≠ e := fun eq => fresh (eq ▸ ho)
      simp [ne]
    rw [List.filter_cons, if_neg (by simp), same]
    exact h.entries
  unreserved := List.forall_mem_cons.2 ⟨free, h.unreserved⟩
  apart := by
    refine List.pairwise_cons.2 ⟨fun o _ _ stays => absurd (by simp) stays, ?_⟩
    refine h.apart.imp_of_mem fun {o p} ho hp apart granted stays => ?_
    have ne : p ≠ e := fun eq => fresh (eq ▸ hp)
    exact apart (by simpa [ne] using granted) fun hg => stays (by simp [hg])
  stays older o younger split stays := by
    cases older with
    | nil =>
      obtain ⟨rfl, -⟩ := List.cons.inj split
      exact absurd (by simp) stays
    | cons first older =>
      obtain ⟨rfl, rfl⟩ := List.cons.inj split
      obtain full | ⟨z, hz, blocked⟩ := h.stays older o younger rfl fun hg => stays (by simp [hg])
      · exact .inl full
      · refine .inr ⟨z, hz, ?_⟩
        obtain unavailable | inKept | ⟨p, hp, ungranted, named⟩ := blocked
        · exact .inl unavailable
        · exact .inr (.inl inKept)
        · have ne : p ≠ e := fun eq => fresh (by simp [← eq, hp])
          exact .inr (.inr ⟨p, by simp [hp], by simp [ne, ungranted], named⟩)

/-- An entry stays, because a zone of it is unavailable or reserved, and the walk goes on. -/
theorem Walked.stay {kept l g : List Entry} {reserved : List ZoneId} {t : State} {e : Entry}
    (h : Walked (kept ++ [e]) l g (reserved ++ e.zones.filter fun z => !decide (z ∈ reserved)) t) (fresh : e ∉ l)
    (blocked : ∃ z ∈ e.zones, ¬ Available t z ∨ ∃ o ∈ kept, z ∈ o.zones) : Walked kept (e :: l) g reserved t where
  sublist := h.sublist.cons e
  entries := by
    have ungranted : e ∉ g := fun hg => fresh (h.sublist.subset hg)
    rw [List.filter_cons, if_pos (by simpa using ungranted), h.entries, List.append_assoc, List.singleton_append]
  unreserved o ho z hz reservedBefore := h.unreserved o ho z hz (List.mem_append.2 (.inl reservedBefore))
  apart := by
    refine List.pairwise_cons.2 ⟨fun o _ granted _ z hz named => ?_, h.apart⟩
    refine h.unreserved o granted z hz ?_
    by_cases before : z ∈ reserved
    · exact List.mem_append.2 (.inl before)
    · exact List.mem_append.2 (.inr (List.mem_filter.2 ⟨named, by simpa using before⟩))
  stays older o younger split stays := by
    cases older with
    | nil =>
      obtain ⟨rfl, -⟩ := List.cons.inj split
      obtain ⟨z, hz, unavailable | inKept⟩ := blocked
      · exact .inr ⟨z, hz, .inl unavailable⟩
      · exact .inr ⟨z, hz, .inr (.inl inKept)⟩
    | cons first older =>
      obtain ⟨rfl, rfl⟩ := List.cons.inj split
      obtain full | ⟨z, hz, blocked⟩ := h.stays older o younger rfl stays
      · exact .inl full
      · refine .inr ⟨z, hz, ?_⟩
        obtain unavailable | ⟨p, hp, named⟩ | ⟨p, hp, ungranted, named⟩ := blocked
        · exact .inl unavailable
        · obtain hp | hp := List.mem_append.1 hp
          · exact .inr (.inl ⟨p, hp, named⟩)
          · obtain rfl := List.mem_singleton.1 hp
            exact .inr (.inr ⟨p, by simp, fun hg => fresh (h.sublist.subset hg), named⟩)
        · exact .inr (.inr ⟨p, by simp [hp], ungranted, named⟩)

/-- A walk over the entries behind `kept` makes grants one after another and comes to what `Walked` says. -/
theorem scanWalk_walked (l : List Entry) : ∀ (kept : List Entry) (reserved : List ZoneId) (s : State),
    s.ge.entries = kept ++ l → DistinctClients s → (∀ z, z ∈ reserved ↔ ∃ o ∈ kept, z ∈ o.zones) →
    ∃ g, Grants s g (scanWalk l reserved s) ∧ Walked kept l g reserved (scanWalk l reserved s) := by
  induction l with
  | nil => exact fun kept reserved s entries _ _ => ⟨[], .nil s, walked_nil kept reserved (t := s) (by simpa using entries)⟩
  | cons e l ih =>
    intro kept reserved s entries distinct reservedIff
    have nodup := entries_nodup distinct
    have fresh : e ∉ l := (List.nodup_cons.1 (List.nodup_append.1 (entries ▸ nodup)).2.1).1
    have mem : e ∈ s.ge.entries := by simp [entries]
    unfold scanWalk
    split
    · next full => exact ⟨[], .nil s, walked_full kept _ reserved entries (freeSlot_eq_none.1 full)⟩
    · next b slot =>
      split
      · next all =>
        have test : ∀ z ∈ e.zones, s.zoneAvailable z = true ∧ z ∉ reserved := by simpa using all
        have notKept : e ∉ kept := fun hk =>
          (List.nodup_append.1 (entries ▸ nodup)).2.2 e hk e (by simp) rfl
        have entries' : (s.grantEntry b e).ge.entries = kept ++ l := by
          rw [grantEntry_entries, entries, List.erase_append_right _ notKept, List.erase_cons_head]
        obtain ⟨g, grants, walked⟩ := ih kept reserved _ entries' (grantEntry_distinct b e distinct) reservedIff
        exact ⟨e :: g, .cons slot mem (fun z hz => (test z hz).1) grants, walked.grant fresh fun z hz => (test z hz).2⟩
      · next blocked =>
        have reservedIff' : ∀ z, (z ∈ reserved ++ e.zones.filter fun z => !decide (z ∈ reserved)) ↔
            ∃ o ∈ kept ++ [e], z ∈ o.zones := by
          intro z
          by_cases before : z ∈ reserved
          · obtain ⟨o, ho, named⟩ := (reservedIff z).1 before
            exact ⟨fun _ => ⟨o, by simp [ho], named⟩, fun _ => by simp [before]⟩
          · have notKept : ∀ o ∈ kept, z ∉ o.zones := fun o ho named => before ((reservedIff z).2 ⟨o, ho, named⟩)
            constructor
            · intro h
              refine ⟨e, by simp, ?_⟩
              simpa [before] using h
            · rintro ⟨o, ho, named⟩
              obtain ho | ho := List.mem_append.1 ho
              · exact absurd named (notKept o ho)
              · obtain rfl := List.mem_singleton.1 ho
                simp [before, named]
        obtain ⟨g, grants, walked⟩ := ih (kept ++ [e]) _ s (by simp [entries]) distinct reservedIff'
        refine ⟨g, grants, walked.stay fresh ?_⟩
        obtain ⟨z, hz, h⟩ : ∃ z ∈ e.zones, s.zoneAvailable z = true → z ∈ reserved := by simpa using blocked
        refine ⟨z, hz, ?_⟩
        by_cases available : s.zoneAvailable z = true
        · exact .inr ((reservedIff z).1 (h available))
        · exact .inl (grants.unavailable (mt zoneAvailable_iff.2 available))

/-! ### The scan -/

/-- A grant scan in SERVING makes grants one after another, and comes to what `Walked` says of the whole list. -/
theorem requestScan_walked {s : State} (mode : s.mc.mode = .serving) (distinct : DistinctClients s) :
    ∃ g, Grants s g s.requestScan ∧ Walked [] s.ge.entries g [] s.requestScan := by
  have scan : s.requestScan = scanWalk s.ge.entries [] s := if_pos mode
  rw [scan]
  exact scanWalk_walked s.ge.entries [] [] s rfl distinct (by simp)

theorem requestScan_of_not_serving {s : State} (mode : s.mc.mode ≠ .serving) : s.requestScan = s := if_neg mode

/-- A sublist of a list without repetition is picked out by membership. -/
theorem filter_mem_of_sublist {α : Type} [DecidableEq α] {g l : List α} (h : g.Sublist l) (nodup : l.Nodup) :
    (l.filter fun a => decide (a ∈ g)) = g := by
  induction h with
  | slnil => rfl
  | @cons g l a h ih =>
    obtain ⟨fresh, nodup⟩ := List.nodup_cons.1 nodup
    rw [List.filter_cons, if_neg (by simpa using fun ha => fresh (h.subset ha)), ih nodup]
  | @cons_cons g l a h ih =>
    obtain ⟨fresh, nodup⟩ := List.nodup_cons.1 nodup
    rw [List.filter_cons, if_pos (by simp)]
    congr 1
    refine Eq.trans (List.filter_congr fun x hx => ?_) (ih nodup)
    have ne : x ≠ a := fun eq => fresh (eq ▸ hx)
    simp [ne]

/-- What stays behind an entry that stays, after a filter. -/
theorem filter_split {α : Type} {p : α → Bool} {l older younger : List α} {e : α} (h : l.filter p = older ++ e :: younger) :
    ∃ l1 l2, l = l1 ++ e :: l2 ∧ older = l1.filter p ∧ p e = true := by
  obtain ⟨l1, rest, rfl, rfl, hrest⟩ := List.filter_eq_append_iff.1 h
  obtain ⟨m1, m2, rfl, none, he, rfl⟩ := List.filter_eq_cons_iff.1 hrest
  exact ⟨l1 ++ m1, m2, by simp, by simp [List.filter_append, List.filter_eq_nil_iff.2 (fun a ha => by simpa using none a ha)], he⟩

/-- Settles O38, from the grants that a scan makes and the order in which the walk makes them. -/
theorem scanServesByAge : Obligations.ScanServesByAge := by
  unfold Obligations.ScanServesByAge
  refine ⟨fun s mode => requestScan_of_not_serving mode, fun s mode distinct => ?_⟩
  obtain ⟨g, grants, walked⟩ := requestScan_walked mode distinct
  generalize s.requestScan = t at grants walked ⊢
  have nodup := entries_nodup distinct
  have left : t.ge.entries = s.ge.entries.filter fun e => decide (e ∉ g) := by simpa using walked.entries
  have gone : ∀ e ∈ s.ge.entries, (e ∉ t.ge.entries ↔ e ∈ g) := by
    intro e he
    rw [left, List.mem_filter]
    simp [he]
  have granted : (s.ge.entries.filter fun e => decide (e ∉ t.ge.entries)) = g := by
    refine Eq.trans (List.filter_congr fun e he => ?_) (filter_mem_of_sublist walked.sublist nodup)
    exact decide_eq_decide.2 (gone e he)
  refine ⟨?_, ?_, fun older e younger split removed => ⟨?_, fun o ho stays => ?_⟩, fun b y => grants.bundle_stays, fun b y empty new => ?_,
    fun older e younger split => ?_, fun e he removed => ?_, fun c stays => ?_, ?_, grants.zone, grants.queue_sublist,
    grants.mem_queue, ?_, fun same => ?_⟩
  · rw [granted]
    exact grants.eq_foldl distinct
  · rw [left]
    exact List.filter_sublist
  · have he : e ∈ s.ge.entries := by simp [split]
    obtain ⟨b, y, empty, new, grant, -, -, -⟩ := grants.granted distinct e ((gone e he).1 removed)
    exact ⟨b, y, empty, new, grant⟩
  · have he : e ∈ s.ge.entries := by simp [split]
    have ho' : o ∈ s.ge.entries := by simp [split, ho]
    have pair : (older ++ e :: younger).Pairwise fun o e => e ∈ g → o ∉ g → ∀ z ∈ e.zones, z ∉ o.zones := split ▸ walked.apart
    exact (List.pairwise_append.1 pair).2.2 o ho e (by simp) ((gone e he).1 removed) fun hg => (gone o ho').2 hg stays
  · obtain ⟨e, he, grant⟩ := grants.new_bundle empty new
    have mem := grants.mem e he
    exact ⟨e, mem, (gone e mem).2 he, grant⟩
  · obtain ⟨l1, l2, whole, rfl, stays⟩ := filter_split (left ▸ split)
    obtain full | ⟨z, hz, blocked⟩ := walked.stays l1 e l2 whole (by simpa using stays)
    · exact .inl full
    · refine .inr ⟨z, hz, ?_⟩
      obtain unavailable | ⟨o, ho, -⟩ | ⟨o, ho, ungranted, named⟩ := blocked
      · exact .inl unavailable
      · exact absurd ho (by simp)
      · exact .inr ⟨o, List.mem_filter.2 ⟨ho, by simpa using ungranted⟩, named⟩
  · exact grants.granted distinct e ((gone e he).1 removed)
  · refine grants.other_client fun e he same => ?_
    have mem := grants.mem e he
    exact (gone e mem).2 he (stays e mem same)
  · rw [grants.attn distinct, ← granted, List.filter_filter]
    congr 1
    refine List.filter_congr fun e _ => ?_
    rw [← Bool.decide_and]
    exact decide_eq_decide.2 ⟨fun h => ⟨h.2, h.1⟩, fun h => ⟨h.2, h.1⟩⟩
  · have counter := grants.arrivalCounter
    have frame := grants.tables
    obtain ⟨mc, cu, cm, si, li, es, lt, free, pending⟩ := frame
    obtain ⟨tmc, tcu, tcm, ⟨tz, tb, tk, te, ta⟩, tlt, tct, tattn, tsi, tli, tes, tfree, tpending⟩ := t
    simp only at mc cu cm si li es lt free pending counter
    subst mc cu cm si li es free pending counter
    rw [lt]
  · have none : g = [] := by
      refine List.eq_nil_iff_forall_not_mem.2 fun e he => ?_
      have mem := grants.mem e he
      exact (gone e mem).2 he (same ▸ mem)
    subst none
    cases grants
    rfl

end Sys2Proof.Machine

/-! The laws of leases (R3, R19, R22, R23, R25, R48, R50, R56, R69, R87): which changes of the tables keep them, and that every effect of
a command is such a change. -/

namespace Sys2Proof.Safety

open Sys2Proof.Claim Sys2Proof.Machine

/-! ### The words of the laws as propositions -/

theorem mem_zonesOfBundle {s : State} {b : BundleId} {z : ZoneId} :
    z ∈ s.zonesOfBundle b ↔ ∃ y, s.ge.bundles[b] = some y ∧ z ∈ y.zones := by
  cases h : s.ge.bundles[b] with
  | none => simp [zonesOfBundle_none h]
  | some y => simp [zonesOfBundle_some h]

theorem holdsBundle_iff {s : State} {c : Slot} {b : BundleId} :
    s.holdsBundle c b = true ↔ ∃ y, s.ge.bundles[b] = some y ∧ y.holder = c := by
  cases h : s.ge.bundles[b] with
  | none => rw [State.holdsBundle, h]; simp
  | some y => rw [State.holdsBundle, h]; simp

theorem mem_bundlesOf {s : State} {c : Slot} {b : BundleId} :
    b ∈ s.bundlesOf c ↔ ∃ y, s.ge.bundles[b] = some y ∧ y.holder = c := by
  simp [State.bundlesOf, holdsBundle_iff, -Fin.getElem_fin]

theorem bundlesOf_eq_nil {s : State} {c : Slot} :
    s.bundlesOf c = [] ↔ ∀ (b : BundleId) (y : Bundle), s.ge.bundles[b] = some y → y.holder ≠ c := by
  rw [List.eq_nil_iff_forall_not_mem]
  simp [mem_bundlesOf, -Fin.getElem_fin]

theorem bundlesOf_nodup (s : State) (c : Slot) : (s.bundlesOf c).Nodup := (List.nodup_finRange 64).filter _

theorem clientHoldsZone_iff {s : State} {c : Slot} {z : ZoneId} : s.clientHoldsZone c z = true ↔ Holds s c z := by
  simp only [State.clientHoldsZone, List.any_eq_true, decide_eq_true_eq, mem_bundlesOf, mem_zonesOfBundle, Holds]
  constructor
  · rintro ⟨b, ⟨y, hy, holder⟩, y', hy', mem⟩
    obtain rfl := Option.some.inj (hy.symm.trans hy')
    exact ⟨b, y, hy, holder, mem⟩
  · rintro ⟨b, y, hy, holder, mem⟩
    exact ⟨b, ⟨y, hy, holder⟩, y, hy, mem⟩

theorem clientHoldsZone_eq_false {s : State} {c : Slot} {z : ZoneId} : s.clientHoldsZone c z = false ↔
    ∀ (b : BundleId) (y : Bundle), s.ge.bundles[b] = some y → y.holder = c → z ∉ y.zones := by
  rw [← Bool.not_eq_true, clientHoldsZone_iff]
  simp [Holds, -Fin.getElem_fin]

theorem entryOf_eq_none {s : State} {c : Slot} : s.entryOf c = none ↔ ∀ e ∈ s.ge.entries, e.client ≠ c := by
  simp [State.entryOf]

theorem entryOf_some {s : State} {c : Slot} {e : Entry} (h : s.entryOf c = some e) : e ∈ s.ge.entries ∧ e.client = c :=
  ⟨List.mem_of_find?_eq_some h, by simpa using List.find?_some h⟩

theorem inService_eq_false {s : State} : s.inService = false ↔ s.mc.mode ≠ .serving ∧ s.mc.mode ≠ .hold := by
  simp [State.inService]

/-! ### Changes of the tables that only take away -/

/-- `t` has the leases of `s`, or fewer: each bundle of `t` is one of `s` with some of its zones, the units are freed with them or become
fences, and the entries of `t` are among those of `s`. -/
structure Shrinks (s t : State) : Prop where
  catalogue : t.cu.catalogue = s.cu.catalogue
  mode : t.inService = s.inService
  ct : t.ct = s.ct
  bundles : ∀ (b : BundleId) (y' : Bundle), t.ge.bundles[b] = some y' → ∃ y, s.ge.bundles[b] = some y ∧ y'.holder = y.holder ∧
    y'.token = y.token ∧ y'.zones.Sublist y.zones ∧ y'.zones ≠ []
  holders : ∀ (z : ZoneId) (b : BundleId), b ∈ t.ge.zones[z].holders ↔ b ∈ s.ge.zones[z].holders ∧ z ∈ t.zonesOfBundle b
  once : ∀ z : ZoneId, t.ge.zones[z].holders.Nodup
  units : ∀ z : ZoneId, t.ge.zones[z].holders.length + t.ge.zones[z].fences ≤
    s.ge.zones[z].holders.length + s.ge.zones[z].fences
  queue : t.lt.queue.Nodup ∧ ∀ b : BundleId, b ∈ t.lt.queue ↔ t.ge.bundles[b].isSome = true
  entries : ∀ e' ∈ t.ge.entries, ∃ e ∈ s.ge.entries, e'.client = e.client ∧ e'.zones = e.zones
  order : (t.ge.entries.map fun e => e.client).Sublist (s.ge.entries.map fun e => e.client)

/-- A client has no more bundles after a change that takes away. -/
theorem Shrinks.bundlesOf {s t : State} (k : Shrinks s t) (c : Slot) : (t.bundlesOf c).Sublist (s.bundlesOf c) := by
  refine List.monotone_filter_right _ fun b hb => ?_
  obtain ⟨y', hy', holder⟩ := holdsBundle_iff.1 hb
  obtain ⟨y, hy, same, -⟩ := k.bundles b y' hy'
  exact holdsBundle_iff.2 ⟨y, hy, same ▸ holder⟩

theorem mayLease_congr {s t : State} (h : t.cu.catalogue = s.cu.catalogue) (c : Slot) (z : ZoneId) :
    MayLease t c z ↔ MayLease s c z := by rw [MayLease, MayLease, h]

/-- A change that takes away keeps the laws of leases. -/
theorem LeasesSound.shrink {s t : State} (h : LeasesSound s) (k : Shrinks s t) : LeasesSound t where
  units :=
    { holders := fun z b => by
        rw [k.holders, h.units.holders]
        refine ⟨fun hz => hz.2, fun hz => ⟨?_, hz⟩⟩
        obtain ⟨y', hy', mem⟩ := mem_zonesOfBundle.1 hz
        obtain ⟨y, hy, -, -, sub, -⟩ := k.bundles b y' hy'
        exact mem_zonesOfBundle.2 ⟨y, hy, sub.subset mem⟩
      once := k.once
      units := fun z => by rw [k.catalogue]; exact (k.units z).trans (h.units.units z) }
  bundles :=
    { zones := fun b y' hy' => by
        obtain ⟨y, hy, -, -, sub, some⟩ := k.bundles b y' hy'
        obtain ⟨-, few, distinct⟩ := h.bundles.zones b y hy
        exact ⟨List.length_pos_iff.2 some, sub.length_le.trans few, distinct.sublist sub⟩
      allowed := fun b y' hy' z hz => by
        obtain ⟨y, hy, holder, -, sub, -⟩ := k.bundles b y' hy'
        rw [mayLease_congr k.catalogue, holder]
        exact h.bundles.allowed b y hy z (sub.subset hz)
      apart := fun b d y' x' hy' hx' holder ne z hz hz' => by
        obtain ⟨y, hy, sameY, -, subY, -⟩ := k.bundles b y' hy'
        obtain ⟨x, hx, sameX, -, subX, -⟩ := k.bundles d x' hx'
        exact h.bundles.apart b d y x hy hx (sameY ▸ sameX ▸ holder) ne z (subY.subset hz) (subX.subset hz')
      limit := fun c => by rw [k.catalogue]; exact (k.bundlesOf c).length_le.trans (h.bundles.limit c) }
  entries :=
    { one := h.entries.one.sublist k.order
      zones := fun e' he' => by
        obtain ⟨e, he, -, zones⟩ := k.entries e' he'
        exact zones ▸ h.entries.zones e he
      allowed := fun e' he' z hz => by
        obtain ⟨e, he, client, zones⟩ := k.entries e' he'
        rw [mayLease_congr k.catalogue, client]
        exact h.entries.allowed e he z (zones ▸ hz)
      apart := fun e' he' z hz => by
        obtain ⟨e, he, client, zones⟩ := k.entries e' he'
        have apart := clientHoldsZone_eq_false.1 (h.entries.apart e he z (zones ▸ hz))
        refine clientHoldsZone_eq_false.2 fun b y' hy' holder mem => ?_
        obtain ⟨y, hy, same, -, sub, -⟩ := k.bundles b y' hy'
        exact apart b y hy (same ▸ client ▸ holder) (sub.subset mem)
      joined := fun e' he' => by
        obtain ⟨e, he, client, -⟩ := k.entries e' he'
        simpa only [k.ct, client] using h.entries.joined e he
      room := fun e' he' => by
        obtain ⟨e, he, client, -⟩ := k.entries e' he'
        have room := (k.bundlesOf _).length_le.trans_lt (h.entries.room e he)
        simpa only [k.catalogue, client] using room }
  clients :=
    { out := fun c state => by
        rw [k.ct] at state ⊢
        obtain ⟨session, misses, outbox, bundles, entry⟩ := h.clients.out c state
        refine ⟨session, misses, outbox, List.sublist_nil.1 (bundles ▸ k.bundlesOf c), entryOf_eq_none.2 fun e' he' same => ?_⟩
        obtain ⟨e, he, client, -⟩ := k.entries e' he'
        exact entryOf_eq_none.1 entry e he (client ▸ same)
      barred := fun c => by rw [k.ct]; exact h.clients.barred c
      session := fun c => by rw [k.ct]; exact h.clients.session c
      unused := fun c used => by
        rw [k.ct]
        refine h.clients.unused c ?_
        rwa [State.inUse, k.catalogue] at used
      stopped := fun out c => by rw [k.ct]; exact h.clients.stopped (k.mode ▸ out) c }
  queue := k.queue
  tokens := fun b y' hy' => by
    obtain ⟨y, hy, -, token, -⟩ := k.bundles b y' hy'
    obtain ⟨zero, distinct⟩ := h.tokens b y hy
    refine ⟨token ▸ zero, fun d x' hx' same => ?_⟩
    obtain ⟨x, hx, -, tokenX, -⟩ := k.bundles d x' hx'
    exact distinct d x hx (tokenX ▸ token ▸ same)
  empty := fun out => by
    obtain ⟨bundles, entries, zones⟩ := h.empty (k.mode ▸ out)
    refine ⟨fun b => ?_, List.eq_nil_iff_forall_not_mem.2 fun e' he' => ?_, fun z => ?_⟩
    · cases hb : t.ge.bundles[b] with
      | none => rfl
      | some y' =>
        obtain ⟨y, hy, -⟩ := k.bundles b y' hb
        exact absurd (bundles b) (by simp [hy, -Fin.getElem_fin])
    · obtain ⟨e, he, -⟩ := k.entries e' he'
      simp [entries] at he
    · have few := k.units z
      rw [(zones z).1, (zones z).2, List.length_nil] at few
      exact ⟨List.length_eq_zero_iff.1 (by omega), by omega⟩

/-- The bundle table, the queue and the entries untouched. -/
theorem Shrinks.of_zones {s t : State} (h : LeasesSound s) (catalogue : t.cu.catalogue = s.cu.catalogue)
    (mode : t.inService = s.inService) (ct : t.ct = s.ct) (bundles : t.ge.bundles = s.ge.bundles) (queue : t.lt.queue = s.lt.queue)
    (entries : (t.ge.entries.map fun e => (e.client, e.zones)).Sublist (s.ge.entries.map fun e => (e.client, e.zones)))
    (zones : ∀ z : ZoneId, t.ge.zones[z].holders = s.ge.zones[z].holders ∧ t.ge.zones[z].fences ≤ s.ge.zones[z].fences) :
    Shrinks s t where
  catalogue := catalogue
  mode := mode
  ct := ct
  bundles b y' hy' := by
    rw [bundles] at hy'
    exact ⟨y', hy', rfl, rfl, .refl _, List.length_pos_iff.1 (h.bundles.zones b y' hy').1⟩
  holders z b := by
    have same : t.zonesOfBundle b = s.zonesOfBundle b := by rw [State.zonesOfBundle, State.zonesOfBundle, bundles]
    rw [(zones z).1, same, ← h.units.holders z b, and_self]
  once z := by rw [(zones z).1]; exact h.units.once z
  units z := by rw [(zones z).1]; exact Nat.add_le_add_left (zones z).2 _
  queue := by rw [queue, bundles]; exact h.queue
  entries e' he' := by
    have mem := entries.subset (List.mem_map_of_mem he')
    obtain ⟨e, he, same⟩ := List.mem_map.1 mem
    obtain ⟨client, zones⟩ := Prod.mk.inj same
    exact ⟨e, he, client.symm, zones.symm⟩
  order := by
    have := entries.map Prod.fst
    simpa [List.map_map, Function.comp_def] using this

theorem zoneRecord_bounds {s : State} (h : LeasesSound s) {b : BundleId} {y : Bundle} (live : s.ge.bundles[b] = some y) {z : ZoneId}
    (hz : z ∈ y.zones) : b ∈ s.ge.zones[z].holders := (h.units.holders z b).2 (mem_zonesOfBundle.2 ⟨y, live, hz⟩)

/-- The end of a bundle takes away. -/
theorem endBundle_shrinks {s : State} (h : LeasesSound s) (b : BundleId) (d : ZoneId → ExpiryPolicy) :
    Shrinks s (s.endBundle b d) := by
  have distinct : (s.zonesOfBundle b).Nodup := by
    cases hb : s.ge.bundles[b] with
    | none => rw [zonesOfBundle_none hb]; exact .nil
    | some y => rw [zonesOfBundle_some hb]; exact (h.bundles.zones b y hb).2.2
  have table : ∀ e, (s.endBundle b d).ge.bundles[e] = if e = b then none else s.ge.bundles[e] := fun e => by
    rw [endBundle_eq s b d distinct]; exact vector_get_set _ _ _ _
  have zone : ∀ z, (s.endBundle b d).ge.zones[z] = if z ∈ s.zonesOfBundle b then
      { s.ge.zones[z] with holders := s.ge.zones[z].holders.erase b
                           fences := s.ge.zones[z].fences + if d z = .fence then 1 else 0 } else s.ge.zones[z] := fun z => by
    rw [endBundle_eq s b d distinct]; exact vector_get_ofFn _ _
  have zones : ∀ e, e ≠ b → (s.endBundle b d).zonesOfBundle e = s.zonesOfBundle e := fun e ne => by
    rw [State.zonesOfBundle, State.zonesOfBundle, table, if_neg ne]
  have gone : (s.endBundle b d).zonesOfBundle b = [] := zonesOfBundle_none (by rw [table, if_pos rfl])
  have queue : (s.endBundle b d).lt.queue = s.lt.queue.erase b := by rw [endBundle_eq s b d distinct]
  have frame := endBundle_tables s b d
  refine ⟨by rw [frame.cu], frame.inService, by rw [endBundle_eq s b d distinct], fun e y' hy' => ?_, fun z e => ?_, fun z => ?_,
    fun z => ?_, ⟨?_, fun e => ?_⟩, ?_, ?_⟩
  · rw [table] at hy'
    split at hy'
    · exact absurd hy' (by simp)
    · exact ⟨y', hy', rfl, rfl, .refl _, List.length_pos_iff.1 (h.bundles.zones e y' hy').1⟩
  · rw [zone]
    by_cases here : e = b
    · subst here
      rw [gone]
      split
      · simp [(h.units.once z).mem_erase_iff, -Fin.getElem_fin]
      · next out => simp [mt (h.units.holders z e).1 out, -Fin.getElem_fin]
    · rw [zones e here, ← h.units.holders z e, and_self]
      split
      · exact List.mem_erase_of_ne here
      · rfl
  · rw [zone]
    split
    · exact (h.units.once z).erase b
    · exact h.units.once z
  · rw [zone]
    split
    · next mem =>
      have holds := (h.units.holders z b).2 mem
      have length := List.length_erase_of_mem holds
      have := List.length_pos_of_mem holds
      dsimp only
      split
      · omega
      · omega
    · exact le_rfl
  · rw [queue]
    exact h.queue.1.erase b
  · rw [queue, h.queue.1.mem_erase_iff, table, h.queue.2]
    by_cases here : e = b
    · simp [here]
    · simp [here]
  · have entries : (s.endBundle b d).ge.entries = s.ge.entries := by rw [endBundle_eq s b d distinct]
    rw [entries]
    exact fun e he => ⟨e, he, rfl, rfl⟩
  · have entries : (s.endBundle b d).ge.entries = s.ge.entries := by rw [endBundle_eq s b d distinct]
    rw [entries]

/-- The giving up of zones of a bundle takes away. -/
theorem giveUpZones_shrinks {s : State} (h : LeasesSound s) {b : BundleId} {y : Bundle} (live : s.ge.bundles[b] = some y)
    {given : List ZoneId} (distinct : given.Nodup) : Shrinks s (s.giveUpZones b y given) := by
  let left := y.zones.filter fun z => decide (z ∉ given)
  have eq := giveUpZones_eq s b y given distinct
  have table : ∀ e, (s.giveUpZones b y given).ge.bundles[e] =
      if e = b then (if left = [] then none else some { y with zones := left }) else s.ge.bundles[e] := fun e => by
    rw [eq]; exact vector_get_set _ _ _ _
  have zone : ∀ z, (s.giveUpZones b y given).ge.zones[z] = if z ∈ given then
      { s.ge.zones[z] with holders := s.ge.zones[z].holders.erase b } else s.ge.zones[z] := fun z => by
    rw [eq]; exact vector_get_ofFn _ _
  have queue : (s.giveUpZones b y given).lt.queue = if left = [] then s.lt.queue.erase b else s.lt.queue := by rw [eq]
  have entries : (s.giveUpZones b y given).ge.entries = s.ge.entries := by rw [eq]
  have zones : ∀ e, e ≠ b → (s.giveUpZones b y given).zonesOfBundle e = s.zonesOfBundle e := fun e ne => by
    rw [State.zonesOfBundle, State.zonesOfBundle, table, if_neg ne]
  have rest : (s.giveUpZones b y given).zonesOfBundle b = left := by
    by_cases none : left = []
    · rw [zonesOfBundle_none (by rw [table, if_pos rfl, if_pos none]), none]
    · rw [zonesOfBundle_some (y := { y with zones := left }) (by rw [table, if_pos rfl, if_neg none])]
  have frame := giveUpZones_tables s b y given
  refine ⟨by rw [frame.cu], frame.inService, by rw [eq], fun e y' hy' => ?_, fun z e => ?_, fun z => ?_, fun z => ?_,
    ⟨?_, fun e => ?_⟩, ?_, by rw [entries]⟩
  · rw [table] at hy'
    split at hy'
    · next here =>
      subst here
      split at hy'
      · exact absurd hy' (by simp)
      · next some =>
        obtain rfl := Option.some.inj hy'
        exact ⟨y, live, rfl, rfl, List.filter_sublist, some⟩
    · exact ⟨y', hy', rfl, rfl, .refl _, List.length_pos_iff.1 (h.bundles.zones e y' hy').1⟩
  · rw [zone]
    by_cases here : e = b
    · subst here
      have member : e ∈ s.ge.zones[z].holders ↔ z ∈ y.zones := by rw [h.units.holders, zonesOfBundle_some live]
      rw [rest, List.mem_filter, decide_eq_true_eq]
      split
      · next up => simp [(h.units.once z).mem_erase_iff, up, -Fin.getElem_fin]
      · next kept => simp [member, kept, -Fin.getElem_fin]
    · rw [zones e here, ← h.units.holders z e, and_self]
      split
      · exact List.mem_erase_of_ne here
      · rfl
  · rw [zone]
    split
    · exact (h.units.once z).erase b
    · exact h.units.once z
  · rw [zone]
    split
    · exact Nat.add_le_add_right (List.length_erase_le) _
    · exact le_rfl
  · rw [queue]
    split
    · exact h.queue.1.erase b
    · exact h.queue.1
  · rw [queue, table]
    split
    · rw [h.queue.1.mem_erase_iff, h.queue.2]
      by_cases here : e = b
      · simp [here]
      · simp [here]
    · rw [h.queue.2]
      by_cases here : e = b
      · simp [here, live, -Fin.getElem_fin]
      · simp [here]
  · rw [entries]
    exact fun e he => ⟨e, he, rfl, rfl⟩

/-- A client's entry that leaves the list takes away. -/
theorem removeEntry_shrinks {s : State} (h : LeasesSound s) (c : Slot) : Shrinks s (s.removeEntry c) :=
  .of_zones h rfl rfl rfl rfl rfl (List.filter_sublist.map _) fun _ => ⟨rfl, le_rfl⟩

/-- A changed record of the same holder, token and zones, under its new deadline, takes away nothing. -/
theorem reschedule_shrinks {s : State} (h : LeasesSound s) {b : BundleId} {y x : Bundle} (live : s.ge.bundles[b] = some y)
    (holder : x.holder = y.holder) (token : x.token = y.token) (same : x.zones = y.zones) : Shrinks s (s.reschedule b x) := by
  have table : ∀ e, (s.reschedule b x).ge.bundles[e] = if e = b then some x else s.ge.bundles[e] :=
    fun e => vector_get_set _ _ _ _
  have zones : ∀ e, (s.reschedule b x).zonesOfBundle e = s.zonesOfBundle e := fun e => by
    by_cases here : e = b
    · subst here
      rw [zonesOfBundle_some live, zonesOfBundle_some (y := x) (by rw [table, if_pos rfl]), same]
    · rw [State.zonesOfBundle, State.zonesOfBundle, table, if_neg here]
  have perm : (s.reschedule b x).lt.queue.Perm s.lt.queue := by
    have mem : b ∈ s.lt.queue := (h.queue.2 b).2 (by simp [live, -Fin.getElem_fin])
    exact (insertByDeadline_perm _ b _).trans (List.perm_cons_erase mem).symm
  refine ⟨rfl, rfl, rfl, fun e y' hy' => ?_, fun z e => ?_, h.units.once, fun z => le_rfl,
    ⟨perm.nodup_iff.2 h.queue.1, fun e => ?_⟩, fun e he => ⟨e, he, rfl, rfl⟩, .refl _⟩
  · rw [table] at hy'
    split at hy'
    · next here =>
      subst here
      obtain rfl := Option.some.inj hy'
      exact ⟨y, live, holder, token, same ▸ .refl _, same ▸ List.length_pos_iff.1 (h.bundles.zones e y live).1⟩
    · exact ⟨y', hy', rfl, rfl, .refl _, List.length_pos_iff.1 (h.bundles.zones e y' hy').1⟩
  · rw [zones, ← h.units.holders z e]
    exact (and_self_iff).symm
  · rw [perm.mem_iff, h.queue.2, table]
    by_cases here : e = b
    · simp [here, live, -Fin.getElem_fin]
    · simp [here]

/-- Ends one after another keep the laws. -/
theorem LeasesSound.endBundles {s : State} (h : LeasesSound s) (bs : List BundleId) (d : ZoneId → ExpiryPolicy) :
    LeasesSound (s.endBundles bs d) := by
  induction bs generalizing s with
  | nil => exact h
  | cons b bs ih => exact ih (h.shrink (endBundle_shrinks h b d))

theorem LeasesSound.releaseBundle {s : State} (h : LeasesSound s) (b : BundleId) : LeasesSound (s.releaseBundle b) := by
  unfold State.releaseBundle
  split
  · next y live => exact h.shrink (giveUpZones_shrinks h live (h.bundles.zones b y live).2.2)
  · exact h

theorem LeasesSound.releaseBundles {s : State} (h : LeasesSound s) (bs : List BundleId) : LeasesSound (s.releaseBundles bs) := by
  induction bs generalizing s with
  | nil => exact h
  | cons b bs ih => exact ih (h.releaseBundle b)

theorem LeasesSound.removeEntry {s : State} (h : LeasesSound s) (c : Slot) : LeasesSound (s.removeEntry c) :=
  h.shrink (removeEntry_shrinks h c)

end Sys2Proof.Safety

/-! The laws of leases under a change of client records, under a grant and under a scan. -/

namespace Sys2Proof.Safety

open Sys2Proof.Claim Sys2Proof.Machine

/-! ### Changes that the laws do not see -/

/-- The tables of `t` are those of `s`, but for fences that have been cleared, closed flags, and stamps and alarms of entries. -/
theorem LeasesSound.of_zones {s t : State} (h : LeasesSound s) (catalogue : t.cu.catalogue = s.cu.catalogue)
    (mode : t.inService = s.inService) (ct : t.ct = s.ct) (bundles : t.ge.bundles = s.ge.bundles) (queue : t.lt.queue = s.lt.queue)
    (entries : (t.ge.entries.map fun e => (e.client, e.zones)) = s.ge.entries.map fun e => (e.client, e.zones))
    (zones : ∀ z : ZoneId, t.ge.zones[z].holders = s.ge.zones[z].holders ∧ t.ge.zones[z].fences ≤ s.ge.zones[z].fences) :
    LeasesSound t := h.shrink (.of_zones h catalogue mode ct bundles queue (entries ▸ .refl _) zones)

/-- The tables of `t` are those of `s`. -/
theorem LeasesSound.congr {s t : State} (h : LeasesSound s) (catalogue : t.cu.catalogue = s.cu.catalogue)
    (mode : t.inService = s.inService) (ct : t.ct = s.ct) (ge : t.ge = s.ge) (queue : t.lt.queue = s.lt.queue) : LeasesSound t :=
  h.of_zones catalogue mode ct (by rw [ge]) queue (by rw [ge]) fun z => by rw [ge]; exact ⟨rfl, le_rfl⟩

theorem LeasesSound.postAttention {s : State} (h : LeasesSound s) (what : Attention) : LeasesSound (s.postAttention what) :=
  h.congr rfl rfl rfl rfl rfl

/-! ### Client records -/

/-- A client has a session, or it is out. -/
theorem state_cases (r : ClientRuntime) : (r.state = .joined ∨ r.state = .silent) ∨ r.state = .absent ∨ r.state = .barred := by
  cases r.state with
  | absent => exact .inr (.inl rfl)
  | joined => exact .inl (.inl rfl)
  | silent => exact .inl (.inr rfl)
  | barred => exact .inr (.inr rfl)

/-- What the states of the clients fix of one record (R86, R87). -/
structure RecordSound (s : State) (c : Slot) (r : ClientRuntime) : Prop where
  out : r.state = .absent ∨ r.state = .barred →
    r.session = none ∧ r.misses = 0 ∧ r.outbox = [] ∧ s.bundlesOf c = [] ∧ s.entryOf c = none
  barred : r.state = .barred → r.last = none
  session : r.state = .joined ∨ r.state = .silent → r.session ≠ none
  unused : s.inUse c = false → r = freshClient
  stopped : s.inService = false → r.state = .absent ∨ r.state = .barred

theorem clientsSound_iff {s : State} : ClientsSound s ↔ ∀ c, RecordSound s c s.ct[c] :=
  ⟨fun h c => ⟨h.out c, h.barred c, h.session c, h.unused c, fun out => h.stopped out c⟩,
    fun h => ⟨fun c => (h c).out, fun c => (h c).barred, fun c => (h c).session, fun c => (h c).unused,
      fun out c => (h c).stopped out⟩⟩

theorem bundlesOf_congr {s t : State} (bundles : t.ge.bundles = s.ge.bundles) (c : Slot) : t.bundlesOf c = s.bundlesOf c := by
  simp only [State.bundlesOf, State.holdsBundle, bundles]

/-- A record obeys in `t` what it obeys in `s` when its client has no bundle and no entry more. -/
theorem RecordSound.congr {s t : State} {c : Slot} {r : ClientRuntime} (h : RecordSound s c r) (used : t.inUse c = s.inUse c)
    (stopped : t.inService = false → r.state = .absent ∨ r.state = .barred) (bundles : s.bundlesOf c = [] → t.bundlesOf c = [])
    (entry : s.entryOf c = none → t.entryOf c = none) : RecordSound t c r where
  out state := by
    obtain ⟨session, misses, outbox, none, gone⟩ := h.out state
    exact ⟨session, misses, outbox, bundles none, entry gone⟩
  barred := h.barred
  session := h.session
  unused := used ▸ h.unused
  stopped := stopped

/-- A session's record. -/
theorem RecordSound.of_present {s : State} {c : Slot} {r : ClientRuntime} (state : r.state = .joined ∨ r.state = .silent)
    (session : r.session ≠ none) (used : s.inUse c = true) (served : s.inService = true) : RecordSound s c r where
  out out := by
    obtain joined | silent := state
    · simp [joined] at out
    · simp [silent] at out
  barred barred := by
    obtain joined | silent := state
    · exact absurd (joined.symm.trans barred) (by simp)
    · exact absurd (silent.symm.trans barred) (by simp)
  session _ := session
  unused out := absurd (used.symm.trans out) (by simp)
  stopped out := absurd (served.symm.trans out) (by simp)

/-- A record without a session. -/
theorem RecordSound.of_out {s : State} {c : Slot} {r : ClientRuntime} (state : r.state = .absent ∨ r.state = .barred)
    (barred : r.state = .barred → r.last = none) (session : r.session = none) (misses : r.misses = 0) (outbox : r.outbox = [])
    (bundles : s.bundlesOf c = []) (entry : s.entryOf c = none) (used : s.inUse c = true) : RecordSound s c r where
  out _ := ⟨session, misses, outbox, bundles, entry⟩
  barred := barred
  session present := by
    obtain absent | barred := state
    · simp [absent] at present
    · simp [barred] at present
  unused out := absurd (used.symm.trans out) (by simp)
  stopped _ := state

/-- The laws with other client records. -/
theorem LeasesSound.withClients {s t : State} (h : LeasesSound s) (catalogue : t.cu.catalogue = s.cu.catalogue)
    (mode : t.inService = s.inService) (ge : t.ge = s.ge) (queue : t.lt.queue = s.lt.queue)
    (joined : ∀ e ∈ s.ge.entries, t.ct[e.client].state = .joined) (clients : ClientsSound t) : LeasesSound t := by
  have base := LeasesSound.congr (t := { t with ct := s.ct }) h catalogue mode rfl ge queue
  exact
    { units := ⟨base.units.holders, base.units.once, base.units.units⟩
      bundles := ⟨base.bundles.zones, base.bundles.allowed, base.bundles.apart, base.bundles.limit⟩
      entries := ⟨base.entries.one, base.entries.zones, base.entries.allowed, base.entries.apart,
        fun e he => joined e (ge ▸ he), base.entries.room⟩
      clients := clients
      queue := base.queue
      tokens := base.tokens
      empty := base.empty }

/-- One record is replaced by one that the laws allow. -/
theorem LeasesSound.setClient {s : State} (h : LeasesSound s) {c : Slot} {r : ClientRuntime} (record : RecordSound s c r)
    (waits : s.entryOf c ≠ none → r.state = .joined) : LeasesSound (s.setClient c r) := by
  have get : ∀ d, (s.setClient c r).ct[d] = if d = c then r else s.ct[d] := fun d => vector_get_set _ _ _ _
  refine h.withClients rfl rfl rfl rfl (fun e he => ?_) (clientsSound_iff.2 fun d => ?_)
  · rw [get]
    split
    · next here => exact waits fun none => entryOf_eq_none.1 none e he here
    · exact h.entries.joined e he
  · rw [get]
    split
    · next here =>
      subst here
      exact record.congr rfl record.stopped id id
    · exact (clientsSound_iff.1 h.clients d).congr rfl (h.clients.stopped · d) id id

/-- A client that has an entry is JOINED. -/
theorem LeasesSound.joined_of_waits {s : State} (h : LeasesSound s) {c : Slot} (waits : s.entryOf c ≠ none) :
    s.ct[c].state = .joined := by
  obtain ⟨e, he⟩ := Option.ne_none_iff_exists'.1 waits
  obtain ⟨mem, rfl⟩ := entryOf_some he
  exact h.entries.joined e mem

/-- A client with a session is in use, and the part in service. -/
theorem LeasesSound.present {s : State} (h : LeasesSound s) {c : Slot} (state : s.ct[c].state = .joined ∨ s.ct[c].state = .silent) :
    s.ct[c].session ≠ none ∧ s.inUse c = true ∧ s.inService = true := by
  refine ⟨h.clients.session c state, ?_, ?_⟩
  · by_contra unused
    rw [h.clients.unused c (by simpa using unused)] at state
    exact absurd state (by decide)
  · by_contra out
    have := h.clients.stopped (by simpa using out) c
    obtain joined | silent := state
    · exact absurd this (by rw [joined]; decide)
    · exact absurd this (by rw [silent]; decide)

/-- A record keeps its state and its session while it has one. -/
theorem LeasesSound.setClient_of_present {s : State} (h : LeasesSound s) {c : Slot} {r : ClientRuntime}
    (present : s.ct[c].state = .joined ∨ s.ct[c].state = .silent) (state : r.state = s.ct[c].state)
    (session : r.session = s.ct[c].session) : LeasesSound (s.setClient c r) := by
  obtain ⟨set, used, served⟩ := h.present present
  exact h.setClient (.of_present (state ▸ present) (session ▸ set) used served) fun waits => state ▸ h.joined_of_waits waits

/-- A notice changes nothing that the laws speak of. -/
theorem LeasesSound.postNotice {s : State} (h : LeasesSound s) (c : Slot) (body : NoticeBody) :
    LeasesSound (s.postNotice c body) := by
  unfold State.postNotice
  split
  · next takes =>
    have present := (takesNotices_iff.1 takes).2
    split
    · exact h.setClient_of_present present rfl rfl
    · exact (h.setClient_of_present (r := s.ct[c].resync) present rfl rfl).postAttention _
  · exact h

/-! ### Empty tables -/

/-- No bundle, no entry, no holder, no fence. -/
structure Cleared (s : State) : Prop where
  bundles : ∀ b : BundleId, s.ge.bundles[b] = none
  entries : s.ge.entries = []
  zones : ∀ z : ZoneId, s.ge.zones[z].holders = [] ∧ s.ge.zones[z].fences = 0
  queue : s.lt.queue = []

theorem Cleared.bundlesOf {s : State} (h : Cleared s) (c : Slot) : s.bundlesOf c = [] :=
  bundlesOf_eq_nil.2 fun b y hy => absurd ((h.bundles b).symm.trans hy) (by simp)

theorem Cleared.entryOf {s : State} (h : Cleared s) (c : Slot) : s.entryOf c = none := by
  simp [entryOf_eq_none, h.entries]

theorem LeasesSound.cleared {s : State} (h : LeasesSound s) (bundles : ∀ b : BundleId, s.ge.bundles[b] = none)
    (entries : s.ge.entries = []) (zones : ∀ z : ZoneId, s.ge.zones[z].holders = [] ∧ s.ge.zones[z].fences = 0) : Cleared s :=
  ⟨bundles, entries, zones, List.eq_nil_iff_forall_not_mem.2 fun b hb => by simpa [bundles b, -Fin.getElem_fin] using (h.queue.2 b).1 hb⟩

/-- Outside service the tables are empty. -/
theorem LeasesSound.cleared_of_stopped {s : State} (h : LeasesSound s) (out : s.inService = false) : Cleared s := by
  obtain ⟨bundles, entries, zones⟩ := h.empty out
  exact h.cleared bundles entries zones

/-- With empty tables the laws are those of the client records. -/
theorem LeasesSound.of_cleared {s : State} (h : Cleared s) (clients : ClientsSound s) : LeasesSound s where
  units :=
    { holders := fun z b => by rw [(h.zones z).1, zonesOfBundle_none (h.bundles b)]; simp
      once := fun z => by rw [(h.zones z).1]; exact .nil
      units := fun z => by rw [(h.zones z).1, (h.zones z).2]; exact Nat.zero_le _ }
  bundles :=
    { zones := fun b y hy => absurd ((h.bundles b).symm.trans hy) (by simp)
      allowed := fun b y hy => absurd ((h.bundles b).symm.trans hy) (by simp)
      apart := fun b _ y _ hy => absurd ((h.bundles b).symm.trans hy) (by simp)
      limit := fun c => by rw [h.bundlesOf c]; exact Nat.zero_le _ }
  entries := by constructor <;> simp [h.entries]
  clients := clients
  queue := by simp [QueueHoldsBundles, h.queue, h.bundles, -Fin.getElem_fin]
  tokens := fun b y hy => absurd ((h.bundles b).symm.trans hy) (by simp)
  empty := fun _ => ⟨h.bundles, h.entries, h.zones⟩

/-! ### A grant -/

/-- What a grant asks of the state (R32 to R35, R54). -/
structure Grantable (s : State) (b : BundleId) (c : Slot) (zs : List ZoneId) : Prop where
  slot : s.ge.bundles[b] = none
  size : 1 ≤ zs.length ∧ zs.length ≤ 6 ∧ zs.Nodup
  may : ∀ z ∈ zs, MayLease s c z
  apart : ∀ z ∈ zs, s.clientHoldsZone c z = false
  room : (s.bundlesOf c).length < s.cu.catalogue.clients[c].bundleLimit
  joined : s.ct[c].state = .joined
  available : ∀ z ∈ zs, s.zoneAvailable z = true

section
variable (s : State) (b : BundleId) (c : Slot) (tag : Byte) (term : Half) (zs : List ZoneId) (es : List Entry)

/-- A bundle is created and the pending list replaced. -/
def granted : State := (s.createBundle b c tag term zs).setEntries es

theorem granted_bundle (d : BundleId) : (granted s b c tag term zs es).ge.bundles[d] =
    if d = b then some (newBundle c tag term zs s.nextToken s.lt.clock) else s.ge.bundles[d] := by
  rw [granted, createBundle_eq]
  exact vector_get_set _ _ _ _

theorem granted_zone (z : ZoneId) : (granted s b c tag term zs es).ge.zones[z] =
    { s.ge.zones[z] with holders := s.ge.zones[z].holders ++ List.replicate (zs.count z) b } := by
  rw [granted, createBundle_eq]
  exact vector_get_ofFn _ _

theorem granted_tables : TablesOnly s (granted s b c tag term zs es) :=
  (createBundle_tables s b c tag term zs).trans (setEntries_tables _ es)

theorem granted_ct : (granted s b c tag term zs es).ct = s.ct := by
  rw [granted, setEntries_ct, createBundle_eq]

theorem granted_queue : (granted s b c tag term zs es).lt.queue.Perm (b :: s.lt.queue) := by
  rw [granted, createBundle_eq]
  exact insertByDeadline_perm _ _ _

theorem granted_zonesOf (d : BundleId) : (granted s b c tag term zs es).zonesOfBundle d =
    if d = b then zs else s.zonesOfBundle d := by
  have table := granted_bundle s b c tag term zs es d
  split
  · next here => exact zonesOfBundle_some (table.trans (if_pos here))
  · next other => rw [State.zonesOfBundle, State.zonesOfBundle, table, if_neg other]

theorem granted_bundlesOf_other {d : Slot} (other : d ≠ c) (slot : s.ge.bundles[b] = none) :
    (granted s b c tag term zs es).bundlesOf d = s.bundlesOf d := by
  refine List.filter_congr fun a _ => Bool.eq_iff_iff.2 ?_
  rw [holdsBundle_iff, holdsBundle_iff, granted_bundle]
  split
  · next here =>
    subst here
    simp [slot, newBundle, Ne.symm other, -Fin.getElem_fin]
  · rfl

theorem granted_bundlesOf_same (slot : s.ge.bundles[b] = none) :
    ((granted s b c tag term zs es).bundlesOf c).Perm (b :: s.bundlesOf c) := by
  have fresh : b ∉ s.bundlesOf c := fun mem => by
    obtain ⟨y, hy, -⟩ := mem_bundlesOf.1 mem
    exact absurd (slot.symm.trans hy) (by simp)
  refine (List.perm_ext_iff_of_nodup (bundlesOf_nodup _ c) (List.nodup_cons.2 ⟨fresh, bundlesOf_nodup s c⟩)).2 fun a => ?_
  rw [mem_bundlesOf, granted_bundle, List.mem_cons, mem_bundlesOf]
  by_cases here : a = b
  · simp [here, newBundle]
  · simp [here]

/-- A zone that a client holds after a grant. -/
theorem granted_holds {d : Slot} {z : ZoneId} (slot : s.ge.bundles[b] = none) :
    (granted s b c tag term zs es).clientHoldsZone d z = (s.clientHoldsZone d z || decide (d = c ∧ z ∈ zs)) := by
  refine Bool.eq_iff_iff.2 ?_
  rw [Bool.or_eq_true, decide_eq_true_eq, clientHoldsZone_iff, clientHoldsZone_iff]
  constructor
  · rintro ⟨a, y, hy, holder, mem⟩
    rw [granted_bundle] at hy
    split at hy
    · obtain rfl := Option.some.inj hy
      exact .inr ⟨holder.symm, mem⟩
    · exact .inl ⟨a, y, hy, holder, mem⟩
  · rintro (⟨a, y, hy, holder, mem⟩ | ⟨rfl, mem⟩)
    · have ne : a ≠ b := fun eq => absurd (slot.symm.trans (eq ▸ hy)) (by simp)
      exact ⟨a, y, (granted_bundle ..).trans ((if_neg ne).trans hy), holder, mem⟩
    · exact ⟨b, _, (granted_bundle ..).trans (if_pos rfl), rfl, mem⟩

end

theorem LeasesSound.granted {s : State} (h : LeasesSound s) {b : BundleId} {c : Slot} {zs : List ZoneId} (g : Grantable s b c zs)
    (tag : Byte) (term : Half) {es : List Entry} (sub : es.Sublist s.ge.entries) (others : ∀ e ∈ es, e.client ≠ c) :
    LeasesSound (granted s b c tag term zs es) := by
  let t := Safety.granted s b c tag term zs es
  have table : ∀ d : BundleId, t.ge.bundles[d] = if d = b then some (newBundle c tag term zs s.nextToken s.lt.clock) else s.ge.bundles[d] :=
    granted_bundle s b c tag term zs es
  have zone : ∀ z : ZoneId, t.ge.zones[z] = { s.ge.zones[z] with holders := s.ge.zones[z].holders ++ List.replicate (zs.count z) b } :=
    granted_zone s b c tag term zs es
  have frame : TablesOnly s t := granted_tables s b c tag term zs es
  have ct : t.ct = s.ct := granted_ct s b c tag term zs es
  have entries : t.ge.entries = es := rfl
  have old : ∀ (d : BundleId) (y : Bundle), t.ge.bundles[d] = some y →
      d = b ∧ y = newBundle c tag term zs s.nextToken s.lt.clock ∨ d ≠ b ∧ s.ge.bundles[d] = some y := fun d y hy => by
    rw [table] at hy
    split at hy
    · exact .inl ⟨‹_›, (Option.some.inj hy).symm⟩
    · exact .inr ⟨‹_›, hy⟩
  have notHolder : ∀ z : ZoneId, b ∉ s.ge.zones[z].holders := fun z mem => by
    have := (h.units.holders z b).1 mem
    simp [zonesOfBundle_none g.slot] at this
  have may : ∀ d z, MayLease t d z ↔ MayLease s d z := fun d z => mayLease_congr (by rw [frame.cu]) d z
  have few : ∀ d, (t.bundlesOf d).length ≤ s.cu.catalogue.clients[d].bundleLimit := fun d => by
    by_cases here : d = c
    · rw [here, (granted_bundlesOf_same s b c tag term zs es g.slot).length_eq]
      exact g.room
    · rw [granted_bundlesOf_other s b c tag term zs es here g.slot]
      exact h.bundles.limit d
  have served := (h.present (.inl g.joined)).2.2
  exact
    { units :=
        { holders := fun z a => by
            rw [zone, List.mem_append, List.mem_replicate, h.units.holders, granted_zonesOf]
            by_cases here : a = b
            · simp [here, zonesOfBundle_none g.slot, List.count_eq_zero]
            · simp [here]
          once := fun z => by
            rw [zone]
            refine List.nodup_append.2 ⟨h.units.once z, List.nodup_replicate.2 (List.nodup_iff_count_le_one.1 g.size.2.2 z), ?_⟩
            intro a ha a' ha' eq
            rw [List.eq_of_mem_replicate ha'] at eq
            exact notHolder z (eq ▸ ha)
          units := fun z => by
            rw [zone, frame.cu, List.length_append, List.length_replicate]
            by_cases mem : z ∈ zs
            · obtain ⟨-, fences, room⟩ := zoneAvailable_iff.1 (g.available z mem)
              rw [List.count_eq_one_of_mem g.size.2.2 mem]
              dsimp only
              omega
            · rw [List.count_eq_zero_of_not_mem mem]
              exact h.units.units z }
      bundles :=
        { zones := fun d y hy => by
            obtain ⟨-, rfl⟩ | ⟨-, hy⟩ := old d y hy
            · exact g.size
            · exact h.bundles.zones d y hy
          allowed := fun d y hy z hz => by
            rw [may]
            obtain ⟨-, rfl⟩ | ⟨-, hy⟩ := old d y hy
            · exact g.may z hz
            · exact h.bundles.allowed d y hy z hz
          apart := fun d d' y y' hy hy' holder ne z hz hz' => by
            obtain ⟨rfl, rfl⟩ | ⟨-, was⟩ := old d y hy
            · obtain ⟨rfl, -⟩ | ⟨-, was'⟩ := old d' y' hy'
              · exact ne rfl
              · exact clientHoldsZone_eq_false.1 (g.apart z hz) d' y' was' holder.symm hz'
            · obtain ⟨rfl, rfl⟩ | ⟨-, was'⟩ := old d' y' hy'
              · exact clientHoldsZone_eq_false.1 (g.apart z hz') d y was holder hz
              · exact h.bundles.apart d d' y y' was was' holder ne z hz hz'
          limit := fun d => by rw [frame.cu]; exact few d }
      entries :=
        { one := h.entries.one.sublist (sub.map _)
          zones := fun e he => h.entries.zones e (sub.subset he)
          allowed := fun e he z hz => (may _ z).2 (h.entries.allowed e (sub.subset he) z hz)
          apart := fun e he z hz => by
            rw [granted_holds s b c tag term zs es g.slot, h.entries.apart e (sub.subset he) z hz]
            simp [others e he]
          joined := fun e he => by rw [ct]; exact h.entries.joined e (sub.subset he)
          room := fun e he => by
            rw [granted_bundlesOf_other s b c tag term zs es (others e he) g.slot, frame.cu]
            exact h.entries.room e (sub.subset he) }
      clients := clientsSound_iff.2 fun d => by
        rw [ct]
        by_cases here : d = c
        · obtain ⟨set, used, -⟩ := h.present (.inl g.joined)
          subst here
          refine .of_present (.inl g.joined) set ?_ (frame.inService.trans served)
          rw [State.inUse, frame.cu]
          exact used
        · refine (clientsSound_iff.1 h.clients d).congr (by rw [State.inUse, frame.cu]; rfl)
            (fun out => h.clients.stopped (frame.inService.symm.trans out) d)
              (fun none => (granted_bundlesOf_other s b c tag term zs es here g.slot).trans none) fun none => ?_
          exact entryOf_eq_none.2 fun e he => entryOf_eq_none.1 none e (sub.subset he)
      queue := by
        have perm := granted_queue s b c tag term zs es
        have fresh : b ∉ s.lt.queue := fun mem => by simpa [g.slot, -Fin.getElem_fin] using (h.queue.2 b).1 mem
        refine ⟨perm.nodup_iff.2 (List.nodup_cons.2 ⟨fresh, h.queue.1⟩), fun d => ?_⟩
        rw [perm.mem_iff, List.mem_cons, h.queue.2, table]
        by_cases here : d = b
        · simp [here]
        · simp [here]
      tokens := fun d y hy => by
        have free := nextToken_free s
        obtain ⟨rfl, rfl⟩ | ⟨-, was⟩ := old d y hy
        · refine ⟨nextToken_ne_zero s, fun d' y' hy' same => ?_⟩
          obtain ⟨rfl, -⟩ | ⟨-, was'⟩ := old d' y' hy'
          · rfl
          · exact absurd same (free d' y' was')
        · obtain ⟨zero, distinct⟩ := h.tokens d y was
          refine ⟨zero, fun d' y' hy' same => ?_⟩
          obtain ⟨rfl, rfl⟩ | ⟨-, was'⟩ := old d' y' hy'
          · exact absurd same.symm (free d y was)
          · exact distinct d' y' was' same
      empty := fun out => absurd (served.symm.trans (frame.inService.symm.trans out)) (by simp) }

/-! ### The scan -/

/-- A grant of an entry whose zones are available keeps the laws. -/
theorem LeasesSound.grantEntry {s : State} (h : LeasesSound s) {b : BundleId} {e : Entry} (slot : s.freeSlot = some b)
    (mem : e ∈ s.ge.entries) (available : ∀ z ∈ e.zones, s.zoneAvailable z = true) : LeasesSound (s.grantEntry b e) := by
  have entries : (s.createBundle b e.client e.tag e.term e.zones).ge.entries = s.ge.entries := by rw [createBundle_eq]
  have gone : ∀ o ∈ s.ge.entries.erase e, o.client ≠ e.client := fun o ho => by
    rw [erase_eq_filter_client h.entries.one mem, List.mem_filter] at ho
    simpa using ho.2
  have made := h.granted (es := s.ge.entries.erase e) ⟨(freeSlot_eq_some.1 slot).1, h.entries.zones e mem, h.entries.allowed e mem,
    h.entries.apart e mem, h.entries.room e mem, h.entries.joined e mem, available⟩ e.tag e.term List.erase_sublist gone
  rw [State.grantEntry, entries]
  exact made.postNotice _ _

theorem LeasesSound.grants {s t : State} {g : List Entry} (k : Grants s g t) (h : LeasesSound s) : LeasesSound t := by
  induction k with
  | nil s => exact h
  | cons slot mem available rest ih => exact ih (h.grantEntry slot mem available)

/-- The laws of leases with R56. -/
abbrev Sound (s : State) : Prop := LeasesSound s ∧ HeadBlocked s

theorem headBlocked_of_not_serving {s : State} (h : s.mc.mode ≠ .serving) : HeadBlocked s := fun mode => absurd mode h

theorem headBlocked_iff {s : State} : HeadBlocked s ↔ (s.mc.mode = .serving → ∀ e, s.ge.entries.head? = some e →
    TableFull s ∨ ∃ z ∈ e.zones, ¬ Available s z) := by
  simp only [HeadBlocked, freeSlot_eq_none, zoneAvailable_eq_false]

/-- After a scan the laws hold, and the head cannot be granted. -/
theorem LeasesSound.scan {s : State} (h : LeasesSound s) : Sound s.requestScan := by
  by_cases mode : s.mc.mode = .serving
  · obtain ⟨g, grants, walked⟩ := requestScan_walked mode h.entries.one
    refine ⟨h.grants grants, headBlocked_iff.2 fun _ e head => ?_⟩
    rw [walked.entries, List.nil_append] at head
    obtain ⟨younger, split⟩ := List.head?_eq_some_iff.1 head
    obtain ⟨older, rest, whole, before, -⟩ := filter_split (older := []) split
    have stays : e ∉ g := by
      have mem : e ∈ s.ge.entries.filter fun e => decide (e ∉ g) := by rw [split]; simp
      simpa using (List.mem_filter.1 mem).2
    obtain full | ⟨z, hz, blocked | named | ⟨o, ho, kept, -⟩⟩ := walked.stays older e rest whole stays
    · exact .inl full
    · exact .inr ⟨z, hz, blocked⟩
    · simp at named
    · have : o ∈ ([] : List Entry) := before ▸ List.mem_filter.2 ⟨ho, decide_eq_true kept⟩
      simp at this
  · rw [requestScan_of_not_serving mode]
    exact ⟨h, headBlocked_of_not_serving mode⟩

/-- A change under which the list has the same head, or none, and no zone and no slot becomes free. -/
theorem HeadBlocked.mono {s t : State} (h : HeadBlocked s) (mode : t.mc.mode = .serving → s.mc.mode = .serving)
    (head : ∀ e', t.ge.entries.head? = some e' → ∃ e, s.ge.entries.head? = some e ∧ e'.zones = e.zones)
    (full : TableFull s → TableFull t) (unavailable : ∀ z, ¬ Available s z → ¬ Available t z) : HeadBlocked t := by
  refine headBlocked_iff.2 fun serving e' he' => ?_
  obtain ⟨e, he, zones⟩ := head e' he'
  obtain tableFull | ⟨z, hz, blocked⟩ := headBlocked_iff.1 h (mode serving) e he
  · exact .inl (full tableFull)
  · exact .inr ⟨z, zones ▸ hz, unavailable z blocked⟩

/-- Mode, catalogue and tables of the Grant Engine as before. -/
theorem HeadBlocked.congr {s t : State} (h : HeadBlocked s) (mode : t.mc.mode = s.mc.mode)
    (catalogue : t.cu.catalogue = s.cu.catalogue) (ge : t.ge = s.ge) : HeadBlocked t := by
  refine h.mono (fun serving => mode ▸ serving) (fun e he => ⟨e, ge ▸ he, rfl⟩) (fun full => ?_) fun z blocked => ?_
  · rwa [TableFull, ge]
  · rwa [Available, ge, catalogue]

end Sys2Proof.Safety

/-! What the operations do to the bundle table whatever the state, what a scan keeps, and how an ACQUIRE comes to its admission. -/

namespace Sys2Proof.Machine

open Sys2Proof.Claim

/-! ### The bundle table after an end and a release -/

section
variable (s : State)

theorem fenceUnit_ge_bundles (b : BundleId) (z : ZoneId) : (s.fenceUnit b z).ge.bundles = s.ge.bundles := by
  simp only [State.fenceUnit]
  split
  · rfl
  · rfl

theorem disposeZone_bundles (b : BundleId) (d : ExpiryPolicy) (z : ZoneId) : (s.disposeZone b d z).ge.bundles = s.ge.bundles := by
  cases d with
  | free => rfl
  | fence => exact fenceUnit_ge_bundles s b z

theorem foldl_bundles {α : Type} {f : State → α → State} (h : ∀ s a, (f s a).ge.bundles = s.ge.bundles) (l : List α) :
    ∀ s, (l.foldl f s).ge.bundles = s.ge.bundles := by
  induction l with
  | nil => exact fun _ => rfl
  | cons a l ih => exact fun s => (ih _).trans (h s a)

theorem endBundle_bundle (b d : BundleId) (disposition : ZoneId → ExpiryPolicy) :
    (s.endBundle b disposition).ge.bundles[d] = if d = b then none else s.ge.bundles[d] := by
  have run := foldl_bundles (fun t z => disposeZone_bundles t b (disposition z) z) (s.zonesOfBundle b) s
  simp only [State.endBundle, State.removeBundle, dequeueExpiry_ge, setBundle_ge, run]
  exact vector_get_set _ _ _ _

theorem giveUpZones_bundle (b d : BundleId) (y : Bundle) (given : List ZoneId) : (s.giveUpZones b y given).ge.bundles[d] =
    if d = b then (if (y.zones.filter fun z => !decide (z ∈ given)) = [] then none
      else some { y with zones := y.zones.filter fun z => !decide (z ∈ given) }) else s.ge.bundles[d] := by
  have run := foldl_bundles (f := fun (t : State) z => t.dropHolder b z) (fun _ _ => rfl) given s
  simp only [State.giveUpZones]
  split
  · simp only [State.removeBundle, dequeueExpiry_ge, setBundle_ge, run]
    exact vector_get_set _ _ _ _
  · simp only [setBundle_ge, run]
    exact vector_get_set _ _ _ _

theorem foldl_ct {α : Type} {f : State → α → State} (h : ∀ s a, (f s a).ct = s.ct) (l : List α) :
    ∀ s, (l.foldl f s).ct = s.ct := by
  induction l with
  | nil => exact fun _ => rfl
  | cons a l ih => exact fun s => (ih _).trans (h s a)

theorem giveUpZones_ct (b : BundleId) (y : Bundle) (given : List ZoneId) : (s.giveUpZones b y given).ct = s.ct := by
  have run := foldl_ct (f := fun (t : State) z => t.dropHolder b z) (fun _ _ => rfl) given s
  simp only [State.giveUpZones]
  split
  · exact run
  · exact run

theorem releaseBundle_bundle (b d : BundleId) :
    (s.releaseBundle b).ge.bundles[d] = if d = b then none else s.ge.bundles[d] := by
  unfold State.releaseBundle
  split
  · have none : (List.filter (fun z => !decide (z ∈ Bundle.zones ‹_›)) (Bundle.zones ‹_›)) = [] :=
      List.filter_eq_nil_iff.2 fun z hz => by simp [hz]
    rw [giveUpZones_bundle, if_pos none]
  · next empty =>
    split
    · next here => rw [here, empty]
    · rfl

theorem endBundles_bundle (bs : List BundleId) (d : BundleId) (disposition : ZoneId → ExpiryPolicy) :
    (s.endBundles bs disposition).ge.bundles[d] = if d ∈ bs then none else s.ge.bundles[d] := by
  induction bs generalizing s with
  | nil => simp [State.endBundles]
  | cons b bs ih =>
    rw [show s.endBundles (b :: bs) disposition = (s.endBundle b disposition).endBundles bs disposition from rfl, ih,
      endBundle_bundle]
    by_cases here : d = b
    · simp [here]
    · simp [here]

theorem releaseBundles_bundle (bs : List BundleId) (d : BundleId) :
    (s.releaseBundles bs).ge.bundles[d] = if d ∈ bs then none else s.ge.bundles[d] := by
  induction bs generalizing s with
  | nil => simp [State.releaseBundles]
  | cons b bs ih =>
    rw [show s.releaseBundles (b :: bs) = (s.releaseBundle b).releaseBundles bs from rfl, ih, releaseBundle_bundle]
    by_cases here : d = b
    · simp [here]
    · simp [here]

end

/-! ### What a scan keeps -/

/-- What every grant of a walk keeps, the walk keeps. -/
theorem scanWalk_keeps {P : State → Prop}
    (grant : ∀ {s : State} {b : BundleId} (e : Entry), s.freeSlot = some b → P s → P (s.grantEntry b e)) (l : List Entry) :
    ∀ (reserved : List ZoneId) (s : State), P s → P (scanWalk l reserved s) := by
  induction l with
  | nil => exact fun _ _ h => h
  | cons e l ih =>
    intro reserved s h
    rw [scanWalk]
    split
    · exact h
    · next slot =>
      split
      · exact ih _ _ (grant e slot h)
      · exact ih _ _ h

/-- What every grant into an empty slot keeps, a scan keeps. -/
theorem requestScan_keeps {P : State → Prop}
    (grant : ∀ {s : State} {b : BundleId} (e : Entry), s.freeSlot = some b → P s → P (s.grantEntry b e)) {s : State} (h : P s) :
    P s.requestScan := by
  unfold State.requestScan
  split
  · exact scanWalk_keeps grant _ _ s h
  · exact h

theorem noticed_state (s : State) (c : Slot) (body : NoticeBody) : (noticed s c body).state = s.ct[c].state := by
  unfold noticed
  split
  · rfl
  · rfl

/-- A scan changes no client's state. -/
theorem requestScan_state (s : State) (c : Slot) : s.requestScan.ct[c].state = s.ct[c].state := by
  refine requestScan_keeps (P := fun t => t.ct[c].state = s.ct[c].state) (fun {t b} e _ h => ?_) rfl
  rw [grantEntry_client]
  split
  · next here => rw [noticed_state, ← here, h]
  · exact h

/-! ### ACQUIRE -/

theorem served_eq_inService (s : State) : served s = s.inService := rfl

theorem zoneOfByte_eq_some {b : Byte} {z : ZoneId} : zoneOfByte b = some z ↔ b = BitVec.ofNat 8 z.val := by
  unfold zoneOfByte
  split
  · next h =>
    rw [Option.some.injEq]
    constructor
    · rintro rfl
      exact BitVec.eq_of_toNat_eq (by simp)
    · rintro rfl
      ext
      simp only [BitVec.toNat_ofNat]
      have := z.isLt
      omega
  · next h =>
    refine ⟨fun none => absurd none (by simp), fun eq => absurd ?_ h⟩
    rw [eq, BitVec.toNat_ofNat]
    have := z.isLt
    omega

theorem filterMap_zoneBytes (zs : List ZoneId) : (zoneBytes zs).filterMap zoneOfByte = zs := by
  rw [zoneBytes, List.filterMap_map, show zoneOfByte ∘ (fun z : ZoneId => BitVec.ofNat 8 z.val) = some from
    funext zoneOfByte_val, List.filterMap_some]

/-- Bytes that all name zones are the bytes of these zones. -/
theorem zoneBytes_filterMap {bytes : List Byte} (h : ∀ b ∈ bytes, zoneOfByte b ≠ none) :
    zoneBytes (bytes.filterMap zoneOfByte) = bytes := by
  induction bytes with
  | nil => rfl
  | cons b bytes ih =>
    obtain ⟨first, rest⟩ := List.forall_mem_cons.1 h
    obtain ⟨z, hz⟩ := Option.ne_none_iff_exists'.1 first
    rw [List.filterMap_cons, hz, zoneBytes, List.map_cons, ← zoneOfByte_eq_some.1 hz]
    exact congrArg _ (ih rest)

theorem zoneByte_injective : Function.Injective fun z : ZoneId => BitVec.ofNat 8 z.val := fun a b h => by
  have ha := zoneOfByte_val a
  rw [show BitVec.ofNat 8 a.val = BitVec.ofNat 8 b.val from h, zoneOfByte_val] at ha
  exact (Option.some.inj ha).symm

theorem zoneBytes_nodup {zs : List ZoneId} : (zoneBytes zs).Nodup ↔ zs.Nodup := List.nodup_map_iff zoneByte_injective

theorem enabledZoneByte_val (s : State) (z : ZoneId) :
    s.enabledZoneByte (BitVec.ofNat 8 z.val) = s.cu.catalogue.zones[z].enabled := by
  rw [State.enabledZoneByte, zoneOfByte_val]

/-- A list of enabled zones reaches check 4 (R31, R32). -/
theorem acquire_of_named {s : State} {c : Slot} {zs : List ZoneId} (served : s.inService = true)
    (joined : s.ct[c].state = .joined) (some : zs ≠ []) (few : zs.length ≤ 6) (distinct : zs.Nodup)
    (enabled : ∀ z ∈ zs, s.cu.catalogue.zones[z].enabled = true) (tag : Byte) (wait : Bool) (term : Half) :
    s.acquire c tag wait term (zoneBytes zs) = s.acquireZones c tag wait term zs := by
  have named : ((zoneBytes zs).find? fun b => !s.enabledZoneByte b) = none := by
    rw [List.find?_eq_none]
    intro b hb
    obtain ⟨z, hz, rfl⟩ := List.mem_map.1 hb
    rw [enabledZoneByte_val, enabled z hz]
    decide
  rw [State.acquire, if_neg (by simpa using few), if_neg (by simp [served]), if_neg (not_not.2 joined), if_neg, named]
  · simp only [filterMap_zoneBytes]
  · rintro (none | twice)
    · exact some (List.map_eq_nil_iff.1 none)
    · exact twice (zoneBytes_nodup.2 distinct)

/-- An ACQUIRE either changes nothing or comes to check 4 with a list of enabled zones. -/
theorem acquire_cases (s : State) (c : Slot) (tag : Byte) (wait : Bool) (term : Half) (bytes : List Byte) :
    (s.acquire c tag wait term bytes).1 = s ∨
    (s.inService = true ∧ s.ct[c].state = .joined ∧ ∃ zs : List ZoneId, zs ≠ [] ∧ zs.length ≤ 6 ∧ zs.Nodup ∧
      (∀ z ∈ zs, s.cu.catalogue.zones[z].enabled = true) ∧
      s.acquire c tag wait term bytes = s.acquireZones c tag wait term zs) := by
  by_cases few : bytes.length > 6
  · exact .inl (by rw [State.acquire, if_pos few])
  by_cases served : s.inService = true
  swap
  · exact .inl (by rw [State.acquire, if_neg few, if_pos (by simpa using served)])
  by_cases joined : s.ct[c].state = .joined
  swap
  · exact .inl (by rw [State.acquire, if_neg few, if_neg (by simp [served]), if_pos joined])
  by_cases list : bytes = [] ∨ ¬ bytes.Nodup
  · exact .inl (by rw [State.acquire, if_neg few, if_neg (by simp [served]), if_neg (not_not.2 joined), if_pos list])
  cases bad : bytes.find? fun b => !s.enabledZoneByte b with
  | some b => exact .inl (by rw [State.acquire, if_neg few, if_neg (by simp [served]), if_neg (not_not.2 joined), if_neg list, bad])
  | none =>
    obtain ⟨some, distinct⟩ := not_or.1 list
    have enabled : ∀ b ∈ bytes, s.enabledZoneByte b = true := fun b hb => by
      simpa using List.find?_eq_none.1 bad b hb
    have zones : ∀ b ∈ bytes, zoneOfByte b ≠ none := fun b hb none => by
      have := enabled b hb
      simp [State.enabledZoneByte, none] at this
    have same := zoneBytes_filterMap zones
    refine .inr ⟨served, joined, bytes.filterMap zoneOfByte, fun none => some ?_, ?_, ?_, fun z hz => ?_,
      by rw [State.acquire, if_neg few, if_neg (by simp [served]), if_neg (not_not.2 joined), if_neg list, bad]⟩
    · rw [← same, none]
      rfl
    · rw [← same, List.length_map] at few
      omega
    · rw [← same] at distinct
      exact zoneBytes_nodup.1 (not_not.1 distinct)
    · obtain ⟨b, hb, hz⟩ := List.mem_filterMap.1 hz
      have := enabled b hb
      rwa [zoneOfByte_eq_some.1 hz, enabledZoneByte_val] at this

/-- Checks 4, 6, 7 and 8 of ACQUIRE have passed (R33, R34). -/
structure ChecksPassed (s : State) (c : Slot) (zs : List ZoneId) : Prop where
  permitted : ∀ z ∈ zs, s.cu.catalogue.clients[c].permissions.getLsbD s.cu.catalogue.zones[z].cls.val = true
  apart : ∀ z ∈ zs, s.clientHoldsZone c z = false
  noEntry : s.entryOf c = none
  room : (s.bundlesOf c).length < s.cu.catalogue.clients[c].bundleLimit

/-- A request that passes the checks 4 to 8 is admitted under its resolved term (R35 to R37). -/
theorem acquireZones_of_passed {s : State} {c : Slot} {zs : List ZoneId} (h : ChecksPassed s c zs) {term resolved : Half}
    (resolves : resolveTerm (boundingTerm s.cu.catalogue zs) term = some resolved) (tag : Byte) (wait : Bool) :
    s.acquireZones c tag wait term zs = s.grantOrWait c tag wait resolved zs := by
  have permitted : (zs.find? fun z => !s.cu.catalogue.clients[c].permissions.getLsbD s.cu.catalogue.zones[z].cls.val) = none :=
    List.find?_eq_none.2 fun z hz => by rw [h.permitted z hz]; decide
  have apart : (zs.find? fun z => s.clientHoldsZone c z) = none :=
    List.find?_eq_none.2 fun z hz => by rw [h.apart z hz]; decide
  simp only [State.acquireZones, permitted, resolves, apart, h.noEntry]
  rw [if_neg (by simp), if_neg (by have := h.room; omega)]

/-- The checks 4 to 8 either turn a request away, and nothing changes, or let it pass. -/
theorem acquireZones_cases (s : State) (c : Slot) (tag : Byte) (wait : Bool) (term : Half) (zs : List ZoneId) :
    (s.acquireZones c tag wait term zs).1 = s ∨ ∃ resolved, ChecksPassed s c zs ∧
      s.acquireZones c tag wait term zs = s.grantOrWait c tag wait resolved zs := by
  unfold State.acquireZones
  split
  · exact .inl rfl
  · next permitted =>
    split
    · exact .inl rfl
    · next resolved _ =>
      split
      · exact .inl rfl
      · next apart =>
        split
        · exact .inl rfl
        · next noEntry =>
          split
          · exact .inl rfl
          · next room =>
            refine .inr ⟨resolved, ⟨fun z hz => ?_, fun z hz => ?_, by simpa using noEntry, by omega⟩, rfl⟩
            · simpa [-Fin.getElem_fin] using List.find?_eq_none.1 permitted z hz
            · simpa using List.find?_eq_none.1 apart z hz

/-- The admission grants at once into an empty slot in SERVING, or appends an entry, or changes nothing. -/
theorem grantOrWait_cases (s : State) (c : Slot) (tag : Byte) (wait : Bool) (term : Half) (zs : List ZoneId) :
    (∃ b, s.mc.mode = .serving ∧ s.freeSlot = some b ∧ (∀ z ∈ zs, s.zoneAvailable z = true) ∧
      (s.grantOrWait c tag wait term zs).1 = s.createBundle b c tag term zs) ∨
    (s.grantSlot zs = none ∧ (s.grantOrWait c tag wait term zs).1 = s.enqueueEntry c tag term zs) ∨
    (s.grantOrWait c tag wait term zs).1 = s := by
  unfold State.grantOrWait
  split
  · next b slot =>
    refine .inl ⟨b, ?_⟩
    unfold State.grantSlot at slot
    split at slot
    · next free =>
      obtain ⟨mode, free⟩ := free
      refine ⟨mode, slot, fun z hz => ?_, rfl⟩
      have := List.all_eq_true.1 free z hz
      simp only [Bool.and_eq_true] at this
      exact this.1
    · exact absurd slot (by simp)
  · next slot =>
    split
    · unfold State.wait
      split
      · exact .inr (.inr rfl)
      · exact .inr (.inl ⟨slot, rfl⟩)
    · exact .inr (.inr rfl)

/-- A bundle that a request names is the client's (R38, R74). -/
theorem ownedBundle_ok {s : State} {c : Slot} {bundle : Byte} {token : Half} {b : BundleId} {y : Bundle}
    (h : s.ownedBundle c bundle token = .ok (b, y)) : s.inService = true ∧ s.ct[c].state = .joined ∧
      bundleOfByte bundle = some b ∧ s.ge.bundles[b] = some y ∧ y.holder = c ∧ y.token = token := by
  unfold State.ownedBundle at h
  split at h
  · exact absurd h (by simp)
  · next served =>
    split at h
    · exact absurd h (by simp)
    · next joined =>
      split at h
      · exact absurd h (by simp)
      · next named =>
        split at h
        · exact absurd h (by simp)
        · next live =>
          split at h
          · exact absurd h (by simp)
          · next holder =>
            split at h
            · exact absurd h (by simp)
            · next same =>
              obtain ⟨rfl, rfl⟩ := Prod.mk.inj (Except.ok.inj h)
              exact ⟨by simpa using served, not_not.1 joined, named, live, not_not.1 holder, not_not.1 same⟩

/-! ### What a request does -/

theorem releasedZones_nodup {y : Bundle} {zone : Byte} {given : List ZoneId} (distinct : y.zones.Nodup)
    (h : releasedZones y zone = some given) : given.Nodup := by
  unfold releasedZones at h
  split at h
  · exact Option.some.inj h ▸ distinct
  · split at h
    · split at h
      · exact Option.some.inj h ▸ List.nodup_singleton _
      · exact absurd h (by simp)
    · exact absurd h (by simp)

/-- What the evaluation of a request of client `c` can do, each with the conditions under which it does it. -/
inductive RequestEffect (s : State) (c : Slot) : State → Prop
  | nothing : RequestEffect s c s
  | newSession (served : s.inService = true) (session : Half) : RequestEffect s c (s.newSession c session)
  | freshSession (served : s.inService = true) (joined : s.ct[c].state = .joined) (session : Half) :
      RequestEffect s c (s.freshSession c session)
  | leave (served : s.inService = true) (joined : s.ct[c].state = .joined) : RequestEffect s c
      ((((s.releaseBundles (s.bundlesOf c)).removeEntry c).setClient c
        { ((s.releaseBundles (s.bundlesOf c)).removeEntry c).ct[c] with
          state := .absent, session := none, misses := 0, outbox := [] }).requestScan)
  | grant {b : BundleId} {zs : List ZoneId} (mode : s.mc.mode = .serving) (joined : s.ct[c].state = .joined)
      (size : 1 ≤ zs.length ∧ zs.length ≤ 6 ∧ zs.Nodup) (enabled : ∀ z ∈ zs, s.cu.catalogue.zones[z].enabled = true)
      (passed : ChecksPassed s c zs) (slot : s.freeSlot = some b) (available : ∀ z ∈ zs, s.zoneAvailable z = true) (tag : Byte)
      (term : Half) : RequestEffect s c (s.createBundle b c tag term zs)
  | wait {zs : List ZoneId} (joined : s.ct[c].state = .joined) (size : 1 ≤ zs.length ∧ zs.length ≤ 6 ∧ zs.Nodup)
      (enabled : ∀ z ∈ zs, s.cu.catalogue.zones[z].enabled = true) (passed : ChecksPassed s c zs) (waits : s.grantSlot zs = none)
      (tag : Byte) (term : Half) : RequestEffect s c (s.enqueueEntry c tag term zs)
  | cancel : RequestEffect s c (s.removeEntry c).requestScan
  | renew {b : BundleId} {y : Bundle} (live : s.ge.bundles[b] = some y) (holder : y.holder = c) (term : Half) (deadline : Word)
      (renews : Byte) : RequestEffect s c (s.reschedule b { y with term := term, deadline := deadline, renews := renews })
  | release {b : BundleId} {y : Bundle} {given : List ZoneId} (live : s.ge.bundles[b] = some y) (holder : y.holder = c)
      (distinct : y.zones.Nodup → given.Nodup) : RequestEffect s c (s.giveUpZones b y given).requestScan

namespace RequestEffect

variable (s : State) (c : Slot)

theorem of_join (session : Half) : RequestEffect s c (s.join c session).1 := by
  unfold State.join
  split
  · exact .nothing
  · next served =>
    have served : s.inService = true := by simpa using served
    split
    · exact .nothing
    · split
      · exact .newSession served session
      · next joined =>
        split
        · exact .nothing
        · exact .freshSession served (not_not.1 joined) session

theorem of_leave : RequestEffect s c (s.leave c).1 := by
  unfold State.leave
  split
  · exact .nothing
  · next served =>
    split
    · exact .nothing
    · next joined => exact .leave (by simpa using served) (not_not.1 joined)

theorem of_acquire (tag : Byte) (wait : Bool) (term : Half) (bytes : List Byte) :
    RequestEffect s c (s.acquire c tag wait term bytes).1 := by
  obtain same | ⟨_, joined, zs, some, few, distinct, enabled, named⟩ := acquire_cases s c tag wait term bytes
  · exact same.symm ▸ .nothing
  obtain same | ⟨resolved, passed, admitted⟩ := acquireZones_cases s c tag wait term zs
  · exact (named ▸ same).symm ▸ .nothing
  have size : 1 ≤ zs.length ∧ zs.length ≤ 6 ∧ zs.Nodup := ⟨List.length_pos_iff.2 some, few, distinct⟩
  rw [named, admitted]
  obtain ⟨b, mode, slot, available, made⟩ | ⟨waits, queued⟩ | same := grantOrWait_cases s c tag wait resolved zs
  · exact made ▸ .grant mode joined size enabled passed slot available tag resolved
  · exact queued ▸ .wait joined size enabled passed waits tag resolved
  · exact same.symm ▸ .nothing

theorem of_cancel (tag : Byte) : RequestEffect s c (s.cancel c tag).1 := by
  unfold State.cancel
  split
  · exact .nothing
  · split
    · exact .nothing
    · split
      · split
        · exact .cancel
        · exact .nothing
      · exact .nothing

theorem of_renew (bundle : Byte) (token term : Half) : RequestEffect s c (s.renew c bundle token term).1 := by
  unfold State.renew
  split
  · exact .nothing
  · next b y owned =>
    obtain ⟨-, -, -, live, holder, -⟩ := ownedBundle_ok owned
    split
    · exact .nothing
    · split_ifs
      · exact .renew live holder _ _ _
      · exact .nothing

theorem of_release (bundle : Byte) (token : Half) (zone : Byte) : RequestEffect s c (s.release c bundle token zone).1 := by
  unfold State.release
  split
  · exact .nothing
  · next b y owned =>
    obtain ⟨-, -, -, live, holder, -⟩ := ownedBundle_ok owned
    split
    · exact .nothing
    · next zones => exact .release live holder fun distinct => releasedZones_nodup distinct zones

theorem of_status : RequestEffect s c (s.status c).1 := by
  unfold State.status
  repeat' split
  all_goals exact .nothing

end RequestEffect

/-- The evaluation of a request has one effect. -/
theorem evaluate_effect (s : State) (c : Slot) (req : Request) : RequestEffect s c (s.evaluate c req).1 := by
  cases req with
  | malformed => exact .nothing
  | join session => exact .of_join s c session
  | leave => exact .of_leave s c
  | acquire tag wait term zones => exact .of_acquire s c tag wait term zones
  | cancel tag => exact .of_cancel s c tag
  | renew bundle token term => exact .of_renew s c bundle token term
  | release bundle token zone => exact .of_release s c bundle token zone
  | status => exact .of_status s c

/-- No request bars a client. -/
theorem evaluate_not_barred {s : State} {c : Slot} (h : s.ct[c].state ≠ .barred) (req : Request) :
    (s.evaluate c req).1.ct[c].state ≠ .barred := by
  have set : ∀ (t : State) (r : ClientRuntime), r.state ≠ .barred → (t.setClient c r).ct[c].state ≠ .barred := fun t r hr => by
    rwa [setClient_get_same]
  generalize (s.evaluate c req).1 = t, evaluate_effect s c req = effect
  cases effect with
  | nothing => exact h
  | newSession => exact set _ _ (by simp)
  | freshSession =>
    rw [State.freshSession, requestScan_state]
    exact set _ _ (by simp)
  | leave =>
    rw [requestScan_state]
    exact set _ _ (by simp)
  | grant =>
    rw [createBundle_eq]
    exact h
  | wait => exact h
  | cancel =>
    rw [requestScan_state]
    exact h
  | renew => exact h
  | release =>
    rw [requestScan_state, giveUpZones_ct]
    exact h

end Sys2Proof.Machine

/-! Every effect of a command keeps the laws of leases (O58). -/

namespace Sys2Proof.Safety

open Sys2Proof.Claim Sys2Proof.Machine

/-! ### Ends and releases of all bundles of a client -/

theorem bundlesOf_endBundles (s : State) (c : Slot) (d : ZoneId → ExpiryPolicy) :
    (s.endBundles (s.bundlesOf c) d).bundlesOf c = [] := by
  refine bundlesOf_eq_nil.2 fun b y hy holder => ?_
  rw [endBundles_bundle] at hy
  split at hy
  · exact absurd hy (by simp)
  · next other => exact other (mem_bundlesOf.2 ⟨y, hy, holder⟩)

theorem bundlesOf_releaseBundles (s : State) (c : Slot) : (s.releaseBundles (s.bundlesOf c)).bundlesOf c = [] := by
  refine bundlesOf_eq_nil.2 fun b y hy holder => ?_
  rw [releaseBundles_bundle] at hy
  split at hy
  · exact absurd hy (by simp)
  · next other => exact other (mem_bundlesOf.2 ⟨y, hy, holder⟩)

theorem entryOf_removeEntry (s : State) (c : Slot) : (s.removeEntry c).entryOf c = none :=
  entryOf_eq_none.2 fun e he => by simpa using (List.mem_filter.1 he).2

theorem bundlesOf_removeEntry (s : State) (c d : Slot) : (s.removeEntry c).bundlesOf d = s.bundlesOf d := rfl

/-- A record without a session, once its client has lost its bundles and its entry. -/
theorem LeasesSound.closeClient {s : State} (h : LeasesSound s) {c : Slot} {r : ClientRuntime} (used : s.inUse c = true)
    (bundles : s.bundlesOf c = []) (state : r.state = .absent ∨ r.state = .barred) (barred : r.state = .barred → r.last = none)
    (session : r.session = none) (misses : r.misses = 0) (outbox : r.outbox = []) :
    LeasesSound ((s.removeEntry c).setClient c r) :=
  (h.removeEntry c).setClient
    (.of_out state barred session misses outbox ((bundlesOf_removeEntry s c c).trans bundles) (entryOf_removeEntry s c) used)
    fun waits => absurd (entryOf_removeEntry s c) waits

/-! ### Miss and silence -/

theorem LeasesSound.cutBundle {s : State} (h : LeasesSound s) (b : BundleId) : LeasesSound (s.cutBundle b) := by
  unfold State.cutBundle
  split
  · next y live =>
    dsimp only
    split
    · exact h.shrink (reschedule_shrinks h live rfl rfl rfl)
    · exact h
  · exact h

theorem LeasesSound.silenceCut {s : State} (h : LeasesSound s) (c : Slot) : LeasesSound (s.silenceCut c) := by
  suffices ∀ bs : List BundleId, LeasesSound (bs.foldl (fun t b => t.cutBundle b) s) from this _
  intro bs
  induction bs generalizing s with
  | nil => exact h
  | cons b bs ih => exact ih (h.cutBundle b)

/-- A JOINED client becomes SILENT and loses its entry. -/
theorem LeasesSound.silenceWithdrawal {s : State} (h : LeasesSound s) {c : Slot} (joined : s.ct[c].state = .joined) :
    LeasesSound ((s.setClient c { s.ct[c] with state := .silent }).silenceWithdrawal c) := by
  obtain ⟨session, used, served⟩ := h.present (.inl joined)
  have record : RecordSound s c { s.ct[c] with state := .silent } := .of_present (.inr rfl) session used served
  have entry : (s.setClient c { s.ct[c] with state := .silent }).entryOf c = s.entryOf c := rfl
  unfold State.silenceWithdrawal
  rw [entry]
  cases waits : s.entryOf c with
  | none => exact h.setClient record fun some => absurd waits some
  | some e =>
    refine LeasesSound.postNotice (s := (s.removeEntry c).setClient c { s.ct[c] with state := .silent }) ?_ _ _
    exact (h.removeEntry c).setClient (record.congr rfl (fun out => absurd (served.symm.trans out) (by simp)) id fun _ => entryOf_removeEntry s c)
      fun some => absurd (entryOf_removeEntry s c) some

theorem Sound.fallSilent {s : State} (h : Sound s) {c : Slot} (joined : s.ct[c].state = .joined) : Sound (s.fallSilent c) := by
  obtain ⟨leases, head⟩ := h
  have quiet : LeasesSound ((((s.setClient c { s.ct[c] with state := .silent }).silenceWithdrawal c).silenceCut c).postAttention
      (.silent c)) := ((leases.silenceWithdrawal joined).silenceCut c).postAttention _
  simp only [State.fallSilent]
  split
  · exact quiet.scan
  · next nothing =>
    rw [Bool.or_eq_true, not_or] at nothing
    have noEntry : s.entryOf c = none := by simpa using nothing.1
    have noBundle : s.bundlesOf c = [] := by simpa using nothing.2
    refine ⟨quiet, head.congr ?_ ?_ ?_⟩
    all_goals
      have withdrawn : (s.setClient c { s.ct[c] with state := .silent }).silenceWithdrawal c =
          s.setClient c { s.ct[c] with state := .silent } := by
        rw [State.silenceWithdrawal, show (s.setClient c { s.ct[c] with state := .silent }).entryOf c = none from noEntry]
      have cut : (s.setClient c { s.ct[c] with state := .silent }).silenceCut c =
          s.setClient c { s.ct[c] with state := .silent } := by
        rw [State.silenceCut, show (s.setClient c { s.ct[c] with state := .silent }).bundlesOf c = [] from noBundle]
        rfl
      rw [withdrawn, cut]
      rfl

/-- Another record of the client, with the lists as they are. -/
theorem Sound.setClient {s : State} (h : Sound s) {c : Slot} {r : ClientRuntime} (record : RecordSound s c r)
    (waits : s.entryOf c ≠ none → r.state = .joined) : Sound (s.setClient c r) :=
  ⟨h.1.setClient record waits, h.2.congr rfl rfl rfl⟩

theorem Sound.setClient_of_present {s : State} (h : Sound s) {c : Slot} {r : ClientRuntime}
    (present : s.ct[c].state = .joined ∨ s.ct[c].state = .silent) (state : r.state = s.ct[c].state)
    (session : r.session = s.ct[c].session) : Sound (s.setClient c r) :=
  ⟨h.1.setClient_of_present present state session, h.2.congr rfl rfl rfl⟩

theorem Sound.miss {s : State} (h : Sound s) (c : Slot) : Sound (s.miss c) := by
  unfold State.miss
  split
  · next joined =>
    have counted := h.setClient_of_present (r := { s.ct[c] with misses := s.ct[c].misses + 1 }) (.inl joined) rfl rfl
    dsimp only
    split
    · exact counted.fallSilent (by rw [setClient_get_same]; exact joined)
    · exact counted
  · exact h

/-! ### Replies -/

/-- Steps 1 to 3 of R88 keep the laws, for a client in use. -/
theorem Sound.acceptReply {s : State} (h : Sound s) {c : Slot} (used : s.inUse c = true) (ack : Option Byte) :
    Sound (s.acceptReply c ack) := by
  rw [acceptReply_eq]
  let r : ClientRuntime := { s.ct[c] with
    state := if s.ct[c].state = .silent then .joined else s.ct[c].state
    misses := 0
    outbox := match ack with | some n => acknowledge n s.ct[c].outbox | none => s.ct[c].outbox }
  suffices Sound (s.setClient c r) from ⟨this.1.congr rfl rfl rfl rfl rfl, this.2.congr rfl rfl rfl⟩
  obtain present | out := state_cases s.ct[c]
  · obtain ⟨session, _, served⟩ := h.1.present present
    have joined : r.state = .joined := by
      obtain joined | silent := present
      · simp only [r, joined]; decide
      · simp only [r, silent]; decide
    exact h.setClient (.of_present (.inl joined) session used served) fun _ => joined
  · obtain ⟨session, misses, outbox, bundles, entry⟩ := h.1.clients.out c out
    have state : r.state = s.ct[c].state := by
      refine if_neg fun silent => ?_
      rw [silent] at out
      exact absurd out (by decide)
    have empty : r.outbox = [] := by
      simp only [r, outbox]
      cases ack with
      | none => rfl
      | some n => rfl
    exact h.setClient (.of_out (state ▸ out) (fun barred => h.1.clients.barred c (state ▸ barred)) session rfl empty bundles entry used)
      fun waits => absurd entry waits

theorem granted_all (s : State) (b : BundleId) (c : Slot) (tag : Byte) (term : Half) (zs : List ZoneId) :
    granted s b c tag term zs s.ge.entries = s.createBundle b c tag term zs := by
  rw [granted, createBundle_eq]
  rfl

/-- A new bundle frees nothing and leaves the head where it is. -/
theorem HeadBlocked.created {s : State} (h : HeadBlocked s) (b : BundleId) (c : Slot) (tag : Byte) (term : Half) (zs : List ZoneId) :
    HeadBlocked (s.createBundle b c tag term zs) := by
  rw [← granted_all]
  have frame := granted_tables s b c tag term zs s.ge.entries
  refine h.mono (fun serving => frame.mc ▸ serving) (fun e he => ⟨e, he, rfl⟩) (fun full d => ?_) fun z blocked available => ?_
  · rw [granted_bundle]
    split
    · simp
    · exact full d
  · obtain ⟨closed, fences, room⟩ := available
    rw [granted_zone] at closed fences room
    rw [frame.cu, List.length_append] at room
    exact blocked ⟨closed, fences, by omega⟩

/-- A new entry at the tail of the list keeps the laws of leases. -/
theorem LeasesSound.enqueueEntry {s : State} (h : LeasesSound s) {c : Slot} {zs : List ZoneId} (joined : s.ct[c].state = .joined)
    (size : 1 ≤ zs.length ∧ zs.length ≤ 6 ∧ zs.Nodup) (may : ∀ z ∈ zs, MayLease s c z) (passed : ChecksPassed s c zs) (tag : Byte)
    (term : Half) : LeasesSound (s.enqueueEntry c tag term zs) := by
  obtain ⟨-, -, served⟩ := h.present (.inl joined)
  have entries : ∀ {P : Entry → Prop}, (∀ e ∈ s.ge.entries, P e) →
      (∀ e : Entry, e.client = c → e.zones = zs → P e) → ∀ e ∈ (s.enqueueEntry c tag term zs).ge.entries, P e := by
    intro P old new e he
    rw [State.enqueueEntry, List.mem_append, List.mem_singleton] at he
    obtain he | rfl := he
    · exact old e he
    · exact new _ rfl rfl
  have holds : ∀ d z, s.clientHoldsZone d z = false → (s.enqueueEntry c tag term zs).clientHoldsZone d z = false := fun _ _ => id
  exact
    { units := ⟨h.units.holders, h.units.once, h.units.units⟩
      bundles := ⟨h.bundles.zones, h.bundles.allowed, h.bundles.apart, h.bundles.limit⟩
      entries :=
        { one := by
            rw [State.enqueueEntry, List.map_append]
            refine List.nodup_append.2 ⟨h.entries.one, by simp, fun a ha b hb eq => ?_⟩
            obtain ⟨e, he, rfl⟩ := List.mem_map.1 ha
            refine entryOf_eq_none.1 passed.noEntry e he ?_
            rw [eq]
            simpa using hb
          zones := entries h.entries.zones fun e _ zones => zones ▸ size
          allowed := entries h.entries.allowed fun e client zones => by
            rw [client, zones]
            exact may
          apart := entries (fun e he z hz => holds _ _ (h.entries.apart e he z hz)) fun e client zones z hz => by
            rw [client]
            exact holds c z (passed.apart z (zones ▸ hz))
          joined := entries h.entries.joined fun e client _ => by
            subst client
            exact joined
          room := entries h.entries.room fun e client _ => by
            subst client
            exact passed.room }
      clients := clientsSound_iff.2 fun d => by
        by_cases here : d = c
        · subst here
          obtain ⟨session, used, served⟩ := h.present (.inl joined)
          exact .of_present (.inl joined) session used served
        · refine (clientsSound_iff.1 h.clients d).congr rfl (fun out => h.clients.stopped out d) id fun none => ?_
          exact entryOf_eq_none.2 (entries (entryOf_eq_none.1 none) fun e client _ => by rw [client]; exact Ne.symm here)
      queue := h.queue
      tokens := h.tokens
      empty := fun out => absurd (served.symm.trans out) (by simp) }

/-- An entry that joins the list because its request cannot be granted leaves a head that cannot be granted. -/
theorem HeadBlocked.enqueueEntry {s : State} (h : HeadBlocked s) (c : Slot) (tag : Byte) (term : Half) {zs : List ZoneId}
    (waits : s.grantSlot zs = none) : HeadBlocked (s.enqueueEntry c tag term zs) := by
  refine headBlocked_iff.2 fun serving e head => ?_
  cases list : s.ge.entries with
  | cons first rest =>
    rw [State.enqueueEntry, list] at head
    exact headBlocked_iff.1 h serving e (by rw [list]; exact head)
  | nil =>
    have first : e.zones = zs := by
      rw [State.enqueueEntry, list] at head
      exact (Option.some.inj head) ▸ rfl
    rw [State.grantSlot] at waits
    split at waits
    · exact .inl (freeSlot_eq_none.1 waits)
    · next notAll =>
      refine .inr ?_
      have some : ∃ z ∈ zs, s.zoneAvailable z = false := by
        by_contra all
        refine notAll ⟨serving, List.all_eq_true.2 fun z hz => ?_⟩
        have available : s.zoneAvailable z = true := by
          by_contra blocked
          exact all ⟨z, hz, by simpa using blocked⟩
        simp [available, State.namedByEntry, list]
      obtain ⟨z, hz, blocked⟩ := some
      exact ⟨z, first ▸ hz, zoneAvailable_eq_false.1 blocked⟩

/-- A renewed or cut bundle frees nothing. -/
theorem HeadBlocked.reschedule {s : State} (h : HeadBlocked s) (b : BundleId) (x : Bundle) : HeadBlocked (s.reschedule b x) := by
  refine h.mono id (fun e he => ⟨e, he, rfl⟩) (fun full d => ?_) fun z blocked => blocked
  have table : (s.reschedule b x).ge.bundles[d] = if d = b then some x else s.ge.bundles[d] := vector_get_set _ _ _ _
  rw [table]
  split
  · simp
  · exact full d

/-- The evaluation of a request keeps the laws, for a client in use. -/
theorem Sound.evaluate {s : State} (h : Sound s) {c : Slot} (used : s.inUse c = true) (req : Request) :
    Sound (s.evaluate c req).1 := by
  generalize (s.evaluate c req).1 = t, evaluate_effect s c req = effect
  cases effect with
  | nothing => exact h
  | newSession served => exact h.setClient (.of_present (.inl rfl) (by simp) used served) fun _ => rfl
  | freshSession served =>
    have ended := (h.1.endBundles (s.bundlesOf c) s.policyOf).removeEntry c
    have frame := (endBundles_tables s (s.bundlesOf c) s.policyOf).trans (removeEntry_tables _ c)
    refine (ended.setClient (.of_present (.inl rfl) (by simp) ?_ (frame.inService.trans served)) fun _ => rfl).scan
    rw [State.inUse, frame.cu]
    exact used
  | leave =>
    refine ((h.1.releaseBundles (s.bundlesOf c)).closeClient ?_ (bundlesOf_releaseBundles s c) (.inl rfl) (by simp) rfl rfl rfl).scan
    rw [State.inUse, (releaseBundles_tables s (s.bundlesOf c)).cu]
    exact used
  | @grant b zs mode joined size enabled passed slot available tag term =>
    refine ⟨?_, h.2.created b c tag term zs⟩
    rw [← granted_all]
    exact h.1.granted ⟨(freeSlot_eq_some.1 slot).1, size, fun z hz => ⟨enabled z hz, passed.permitted z hz⟩, passed.apart, passed.room,
      joined, available⟩ tag term (.refl _) (entryOf_eq_none.1 passed.noEntry)
  | wait joined size enabled passed waits tag term =>
    exact ⟨h.1.enqueueEntry joined size (fun z hz => ⟨enabled z hz, passed.permitted z hz⟩) passed tag term,
      h.2.enqueueEntry c tag term waits⟩
  | cancel => exact (h.1.removeEntry c).scan
  | renew live => exact ⟨h.1.shrink (reschedule_shrinks h.1 live rfl rfl rfl), h.2.reschedule _ _⟩
  | @release b y given live _ distinct =>
    exact (h.1.shrink (giveUpZones_shrinks h.1 live (distinct (h.1.bundles.zones b y live).2.2))).scan

/-- A request keeps the laws, for a client in use that is not BARRED. -/
theorem Sound.handleRequest {s : State} (h : Sound s) {c : Slot} (used : s.inUse c = true) (free : s.ct[c].state ≠ .barred)
    (seq : RequestSeq) (req : Request) : Sound (s.handleRequest c seq req).1 := by
  unfold State.handleRequest
  split
  · exact h
  · have evaluated := h.evaluate used req
    have still := evaluate_not_barred free req
    have frame := evaluate_tables s c req
    have usedStill : (s.evaluate c req).1.inUse c = true := by
      rw [State.inUse, frame.cu]
      exact used
    obtain present | out := state_cases (s.evaluate c req).1.ct[c]
    · exact evaluated.setClient_of_present present rfl rfl
    · obtain ⟨session, misses, outbox, bundles, entry⟩ := evaluated.1.clients.out c out
      exact evaluated.setClient (.of_out out (fun barred => absurd barred still) session misses outbox bundles entry usedStill)
        fun waits => absurd entry waits

/-! ### The effects on the tables -/

theorem stands_used {s : State} {x : Exchange} (stands : s.exchangeStands x = true) :
    s.inUse x.target = true ∧ s.ct[x.target].state ≠ .barred := by
  obtain ⟨-, used, -, free⟩ := exchangeStands_iff.1 stands
  exact ⟨used, free⟩

theorem acceptReply_not_barred {s : State} {c : Slot} (free : s.ct[c].state ≠ .barred) (ack : Option Byte) :
    (s.acceptReply c ack).ct[c].state ≠ .barred := by
  rw [acceptReply_eq]
  simp only [vector_get_set, if_true]
  split
  · decide
  · exact free

/-- The postings of the wait alarm change no table of the laws. -/
theorem examineWaits_ge (s : State) : s.examineWaits.ge =
    { s.ge with entries := s.ge.entries.map fun e => if s.alarmDue e then { e with alarmed := true } else e } := by
  have posts : ∀ (l : List Entry) (t : State), (l.foldl (fun t e => t.postAttention (.waiting e.client)) t).ge = t.ge := by
    intro l
    induction l with
    | nil => exact fun _ => rfl
    | cons e l ih => exact fun t => ih _
  rw [State.examineWaits, setEntries_ge, posts]

theorem examineWaits_ct (s : State) : s.examineWaits.ct = s.ct := by
  have posts : ∀ (l : List Entry) (t : State), (l.foldl (fun t e => t.postAttention (.waiting e.client)) t).ct = t.ct := by
    intro l
    induction l with
    | nil => exact fun _ => rfl
    | cons e l ih => exact fun t => ih _
  rw [State.examineWaits, setEntries_ct, posts]

theorem alarm_zones (s : State) (e : Entry) : (if s.alarmDue e then { e with alarmed := true } else e).zones = e.zones ∧
    (if s.alarmDue e then { e with alarmed := true } else e).client = e.client := by
  split
  · exact ⟨rfl, rfl⟩
  · exact ⟨rfl, rfl⟩

theorem Sound.examineWaits {s : State} (h : Sound s) : Sound s.examineWaits := by
  have frame := examineWaits_tables s
  have ge := examineWaits_ge s
  have queue : ∀ (l : List Entry) (t : State),
      (l.foldl (fun t e => t.postAttention (.waiting e.client)) t).lt = t.lt := by
    intro l
    induction l with
    | nil => exact fun _ => rfl
    | cons e l ih => exact fun t => ih _
  constructor
  · refine h.1.of_zones (by rw [frame.cu]) frame.inService (examineWaits_ct s) (by rw [ge]) ?_ ?_ fun z => by
      rw [ge]
      exact ⟨rfl, le_rfl⟩
    · rw [State.examineWaits, setEntries_lt, queue]
    · rw [ge, List.map_map]
      refine List.map_congr_left fun e _ => ?_
      obtain ⟨zones, client⟩ := alarm_zones s e
      exact Prod.ext client zones
  · refine h.2.mono (fun serving => frame.mc ▸ serving) (fun e' he' => ?_) (fun full => ?_) fun z blocked => ?_
    · rw [ge, List.head?_map, Option.map_eq_some_iff] at he'
      obtain ⟨e, he, rfl⟩ := he'
      exact ⟨e, he, (alarm_zones s e).1⟩
    · rwa [TableFull, ge]
    · rwa [Available, ge, frame.cu]

/-- A changed zone record: the closed flag, or fences that have been cleared. -/
theorem LeasesSound.setZone {s : State} (h : LeasesSound s) (z : ZoneId) {r : ZoneState} (holders : r.holders = s.ge.zones[z].holders)
    (fences : r.fences ≤ s.ge.zones[z].fences) : LeasesSound (s.setZone z r) := by
  refine h.of_zones rfl rfl rfl rfl rfl rfl fun y => ?_
  have get : (s.setZone z r).ge.zones[y] = if y = z then r else s.ge.zones[y] := vector_get_set _ _ _ _
  rw [get]
  split
  · next here =>
    subst here
    exact ⟨holders, fences⟩
  · exact ⟨rfl, le_rfl⟩

theorem Sound.closeZone {s : State} (h : Sound s) (z : ZoneId) : Sound (s.setZone z { s.ge.zones[z] with closed := true }) := by
  refine ⟨h.1.setZone z rfl le_rfl, h.2.mono id (fun e he => ⟨e, he, rfl⟩) id fun y blocked available => ?_⟩
  have get : (s.setZone z { s.ge.zones[z] with closed := true }).ge.zones[y] =
    if y = z then { s.ge.zones[z] with closed := true } else s.ge.zones[y] := vector_get_set _ _ _ _
  rw [Available, get] at available
  split at available
  · exact absurd available.1 (by simp)
  · exact blocked available

/-- A bundle at the head of the expiry queue is live. -/
theorem LeasesSound.passedHead_live {s : State} (h : LeasesSound s) {b : BundleId} (head : s.passedHead = some b) :
    ∃ y, s.ge.bundles[b] = some y := by
  have mem : b ∈ s.lt.queue := by
    unfold State.passedHead at head
    split at head
    · exact absurd head (by simp)
    · next queue =>
      split at head
      · rw [queue, Option.some.inj head]
        simp
      · exact absurd head (by simp)
  exact Option.isSome_iff_exists.1 ((h.queue.2 b).1 mem)

theorem LeasesSound.endBundle {s : State} (h : LeasesSound s) (b : BundleId) (d : ZoneId → ExpiryPolicy) :
    LeasesSound (s.endBundle b d) := h.shrink (endBundle_shrinks h b d)

theorem Sound.bar {s : State} (h : Sound s) {c : Slot} (used : s.inUse c = true) (d : ExpiryPolicy) : Sound (s.barClient c d) := by
  have frame := endBundles_tables s (s.bundlesOf c) fun _ => d
  have closed := (h.1.endBundles (s.bundlesOf c) fun _ => d).closeClient (c := c)
    (r := { ((s.endBundles (s.bundlesOf c) fun _ => d).removeEntry c).ct[c] with
      state := .barred, session := none, misses := 0, last := none, outbox := [] })
    (by rw [State.inUse, frame.cu]; exact used) (bundlesOf_endBundles s c fun _ => d) (.inr rfl) (fun _ => rfl) rfl rfl rfl
  refine LeasesSound.scan ?_
  rw [markDiscard_es]
  exact closed.congr rfl rfl rfl rfl rfl

/-- Every effect on the tables keeps the laws. -/
theorem Sound.tables {s t : State} (effect : TableEffect s t) (h : Sound s) : Sound t := by
  cases effect with
  | lapse head =>
    obtain ⟨y, live⟩ := h.1.passedHead_live head
    simp only [State.lapseBundle, live]
    exact ((h.1.endBundle _ _).postNotice _ _).scan
  | waits => exact h.examineWaits
  | miss stands => exact h.miss _
  | idle stands ack => exact h.acceptReply (stands_used stands).1 ack
  | request stands seq ack req =>
    obtain ⟨used, free⟩ := stands_used stands
    have frame := acceptReply_tables s
    refine (h.acceptReply used ack).handleRequest ?_ (acceptReply_not_barred free ack) seq req
    rw [State.inUse, (frame _ ack).cu]
    exact used
  | fault b => exact ⟨h.1.postAttention _, h.2.congr rfl rfl rfl⟩
  | close served z => exact h.closeZone z
  | opening served z => exact (h.1.setZone z (r := { s.ge.zones[z] with closed := false }) rfl le_rfl).scan
  | clear served z => exact (h.1.setZone z (r := { s.ge.zones[z] with fences := 0 }) rfl (Nat.zero_le _)).scan
  | revoke live d => exact ((h.1.endBundle _ _).postNotice _ _).scan
  | withdraw waits => exact ((h.1.removeEntry _).postNotice _ _).scan
  | bar used d => exact h.bar used d
  | unbar used barred =>
    obtain ⟨session, misses, outbox, bundles, entry⟩ := h.1.clients.out _ (.inr barred)
    exact h.setClient (.of_out (.inl rfl) (fun h => nomatch h) session misses outbox bundles entry used) fun waits => absurd entry waits
  | fetch => exact ⟨h.1.congr rfl rfl rfl rfl rfl, h.2.congr rfl rfl rfl⟩

/-! ### The effects outside the tables -/

theorem headBlocked_of_empty {s : State} (h : s.ge.entries = []) : HeadBlocked s := fun _ e head => by simp [h] at head

theorem RecordSound.fresh {s : State} {c : Slot} (bundles : s.bundlesOf c = []) (entry : s.entryOf c = none) :
    RecordSound s c freshClient where
  out _ := ⟨rfl, rfl, rfl, bundles, entry⟩
  barred _ := rfl
  session present := absurd present (by decide)
  unused _ := rfl
  stopped _ := .inl rfl

/-- Empty tables and records that the laws allow. -/
theorem Sound.of_cleared {s : State} (h : Cleared s) (records : ∀ c, RecordSound s c s.ct[c]) : Sound s :=
  ⟨.of_cleared h (clientsSound_iff.2 records), headBlocked_of_empty h.entries⟩

/-- A part with empty tables and fresh records. -/
theorem Sound.of_fresh {s : State} (h : Cleared s) (records : ∀ c : Slot, s.ct[c] = freshClient) : Sound s :=
  .of_cleared h fun c => (records c).symm ▸ .fresh (h.bundlesOf c) (h.entryOf c)

/-- The reset values obey the laws. -/
theorem Sound.of_resetValues {s : State} (h : ResetValues s) : Sound s :=
  .of_fresh ⟨h.bundles, h.entries, fun z => by rw [h.zones z]; exact ⟨rfl, rfl⟩, h.clock.2.2⟩ h.clients

theorem inService_of_mode {s : State} {m : Mode} (mode : s.mc.mode = m) : s.inService = (m == .serving || m == .hold) := by
  rw [State.inService, mode]

/-- The part enters service with an empty table of zones. -/
theorem cleared_setUp {s : State} (h : Cleared s) :
    Cleared { s with ge := { s.ge with zones := s.cu.catalogue.zones.map setUpZone } } where
  bundles := h.bundles
  entries := h.entries
  zones z := by simp [setUpZone]
  queue := h.queue

theorem Sound.load {s : State} (h : Sound s) (mode : s.mc.mode = .boot) : Sound s.loadCatalogue := by
  have cleared := h.1.cleared_of_stopped ((inService_of_mode mode).trans rfl)
  have chosen : Cleared s.chosen := ⟨cleared.bundles, cleared.entries, cleared.zones, cleared.queue⟩
  have ended := endBoot_ended s.chosen (chooseBank (classifyBank s.cm.nv 0) (classifyBank s.cm.nv 1)).isSome
  rw [loadCatalogue_eq]
  refine .of_fresh ?_ fun c => by rw [ended.ct]; simp [State.chosen]
  by_cases auto : (chooseBank (classifyBank s.cm.nv 0) (classifyBank s.cm.nv 1)).isSome = true ∧ s.chosen.mc.startChoice = .auto ∧
      s.chosen.cu.catalogue.params.autostart = true
  · rw [endBoot_of_autostart _ auto]
    have setUp := cleared_setUp chosen
    exact ⟨setUp.bundles, setUp.entries, setUp.zones, setUp.queue⟩
  · rw [endBoot_of_config _ auto]
    exact ⟨chosen.bundles, chosen.entries, chosen.zones, chosen.queue⟩

theorem Sound.start {s : State} (h : Sound s) (mode : s.mc.mode = .config) : Sound s.enterService := by
  have out : s.inService = false := (inService_of_mode mode).trans rfl
  have cleared := h.1.cleared_of_stopped out
  have setUp := cleared_setUp cleared
  have served : s.enterService.inService = true := by
    cases stopin : s.mc.stopin with
    | true => simp [State.enterService, State.setUpZones, State.inService, stopin]
    | false => simp [State.enterService, State.setUpZones, State.inService, stopin]
  refine .of_cleared ⟨setUp.bundles, setUp.entries, setUp.zones, setUp.queue⟩ fun c => ?_
  exact (clientsSound_iff.1 h.1.clients c).congr rfl (fun out => absurd (served.symm.trans out) (by simp)) id id

theorem Sound.stop {s : State} (h : Sound s) (quiescent : s.quiescent = true) : Sound s.stopService := by
  obtain ⟨live, entries, fences⟩ := (quiescent_iff s).1 quiescent
  have bundles : ∀ b : BundleId, s.ge.bundles[b] = none := fun b => by
    have := List.filter_eq_nil_iff.1 live b (List.mem_finRange b)
    simpa [-Fin.getElem_fin] using this
  have zones : ∀ z : ZoneId, s.ge.zones[z].holders = [] ∧ s.ge.zones[z].fences = 0 := fun z => by
    refine ⟨List.eq_nil_iff_forall_not_mem.2 fun b mem => ?_, ?_⟩
    · have := (h.1.units.holders z b).1 mem
      simp [zonesOfBundle_none (bundles b)] at this
    · have := List.countP_eq_zero.1 fences s.ge.zones[z] (by simp)
      simpa [-Fin.getElem_fin] using this
  have cleared := h.1.cleared bundles entries zones
  have after : Cleared s.stopService := ⟨cleared.bundles, cleared.entries, cleared.zones, cleared.queue⟩
  refine .of_cleared after fun c => ?_
  have record : s.stopService.ct[c] = stoppedClient (s.inUse c) s.ct[c] := vector_get_ofFn _ _
  rw [record, stoppedClient]
  split
  · next present =>
    rw [Bool.and_eq_true] at present
    exact .of_out (.inl rfl) (fun h => nomatch h) rfl rfl rfl (after.bundlesOf c) (after.entryOf c) present.1
  · next absent =>
    have old := clientsSound_iff.1 h.1.clients c
    refine old.congr rfl (fun _ => ?_) (fun _ => after.bundlesOf c) fun _ => after.entryOf c
    obtain present | out := state_cases s.ct[c]
    · refine absurd ?_ absent
      rw [(h.1.present present).2.1]
      simpa [-Fin.getElem_fin] using present
    · exact out

/-- Another catalogue in CONFIG, with the records that it brings into use or puts out of use fresh. -/
theorem Sound.replaceCatalogue {s : State} (h : Sound s) (mode : s.mc.mode = .config) (cat : Catalogue) (dirty : Bool) :
    Sound (s.replaceCatalogue cat dirty) := by
  have cleared := h.1.cleared_of_stopped ((inService_of_mode mode).trans rfl)
  have after : Cleared (s.replaceCatalogue cat dirty) := ⟨cleared.bundles, cleared.entries, cleared.zones, cleared.queue⟩
  refine .of_cleared after fun c => ?_
  have record : (s.replaceCatalogue cat dirty).ct[c] =
    recordAfterEdit s.cu.catalogue.clients[c].enabled cat.clients[c].enabled s.ct[c] := vector_get_ofFn _ _
  rw [record, recordAfterEdit]
  split
  · next same =>
    exact (clientsSound_iff.1 h.1.clients c).congr same.symm (h.1.clients.stopped · c) (fun _ => after.bundlesOf c) fun _ => after.entryOf c
  · exact .fresh (after.bundlesOf c) (after.entryOf c)

/-- Another catalogue in CONFIG with the same client records. -/
theorem Sound.editCatalogue {s t : State} (h : Sound s) (mode : s.mc.mode = .config)
    (clients : t.cu.catalogue.clients = s.cu.catalogue.clients) (mc : t.mc = s.mc) (ge : t.ge = s.ge) (queue : t.lt.queue = s.lt.queue)
    (ct : t.ct = s.ct) : Sound t := by
  have cleared := h.1.cleared_of_stopped ((inService_of_mode mode).trans rfl)
  have after : Cleared t := ⟨ge ▸ cleared.bundles, ge ▸ cleared.entries, ge ▸ cleared.zones, queue ▸ cleared.queue⟩
  refine .of_cleared after fun c => ?_
  rw [ct]
  exact (clientsSound_iff.1 h.1.clients c).congr (by rw [State.inUse, clients]; rfl)
    (fun out => h.1.clients.stopped (by rwa [State.inService, mc] at out) c) (fun _ => after.bundlesOf c) fun _ => after.entryOf c

theorem Sound.catalogue {s t : State} (effect : CatalogueEffect s t) (h : Sound s) : Sound t := by
  cases effect with
  | zone mode => exact h.editCatalogue mode rfl rfl rfl rfl rfl
  | client mode => exact h.replaceCatalogue mode _ _
  | parameters mode => exact h.editCatalogue mode rfl rfl rfl rfl rfl
  | clear mode => exact h.replaceCatalogue mode _ _
  | revert mode => exact h.replaceCatalogue mode _ _
  | freeze => exact ⟨h.1.congr rfl rfl rfl rfl rfl, h.2.congr rfl rfl rfl⟩

/-- The mode follows the hold reasons. -/
theorem Sound.followReasons {s : State} (h : Sound s) (served : s.inService = true) : Sound s.followReasons := by
  obtain ⟨-, same⟩ | ⟨-, -, same⟩ | ⟨-, -, same⟩ := followReasons_cases s
  · rw [same]
    exact ⟨h.1.congr rfl served.symm rfl rfl rfl, headBlocked_of_not_serving Mode.noConfusion⟩
  · rw [same]
    exact (h.1.congr (t := { s with mc := { s.mc with mode := .serving } }) rfl served.symm rfl rfl rfl).scan
  · rwa [same]

/-- Other lines and reasons, with the mode as it is. -/
theorem Sound.withControl {s : State} (h : Sound s) (mc : ModeControl) (mode : mc.mode = s.mc.mode) : Sound { s with mc := mc } :=
  ⟨h.1.congr rfl (by rw [State.inService, mode]; rfl) rfl rfl rfl, h.2.congr mode rfl rfl⟩

theorem Sound.setLine {s : State} (h : Sound s) (line : Bool) : Sound (s.setLine line) := by
  cases served : s.inService with
  | false =>
    rw [setLine_of_not_served served]
    exact h.withControl _ rfl
  | true =>
    rw [setLine_of_served served]
    exact (h.withControl { s.mc with stopin := line, holdLine := line } rfl).followReasons served

theorem Sound.effect {i : Instr} {s t : State} (effect : Effect i s t) (h : Sound s) : Sound t := by
  cases effect with
  | nothing => exact h
  | tables _ table => exact h.tables table
  | memory _ memory =>
    have same := memory.leases
    exact ⟨h.1.congr same.catalogue (by rw [State.inService, same.mc]; rfl) same.ct same.ge (by rw [same.lt]),
      h.2.congr (by rw [same.mc]) same.catalogue same.ge⟩
  | catalogue _ catalogue => exact h.catalogue catalogue
  | tick => exact ⟨h.1.congr rfl rfl rfl rfl rfl, h.2.congr rfl rfl rfl⟩
  | reset => exact .of_resetValues (takeReset_values s _ _ _)
  | lineReset => exact .of_resetValues (resetValues_rst (takeReset_values s _ _ _) true)
  | rstReleased => exact h.withControl _ rfl
  | load mode => exact h.load mode
  | stopin _ line => exact h.setLine line
  | start mode => exact h.start mode
  | stop _ quiescent => exact h.stop quiescent
  | command served present => exact (h.withControl { s.mc with holdCommand := present } rfl).followReasons served

/-- Settles O58: ports, link and exchange have no part in the laws, and every effect of a command keeps them. -/
theorem stepKeepsLeasesSound : Obligations.StepKeepsLeasesSound := by
  unfold Obligations.StepKeepsLeasesSound
  intro s t leases head step
  refine step_keeps (P := Sound) (fun {u v} same h => ?_) (fun effect h => h.effect effect) (fun u l h => ?_) step ⟨leases, head⟩
  · exact ⟨h.1.congr (by rw [same.cu]) (by rw [State.inService, same.mc]; rfl) same.ct same.ge same.queue,
      h.2.congr (by rw [same.mc]) (by rw [same.cu]) same.ge⟩
  · exact ⟨h.1.congr rfl rfl rfl rfl rfl, h.2.congr rfl rfl rfl⟩

end Sys2Proof.Safety

/-! The laws of the Attention Set and of the outboxes under every operation (O60), and what replies and other modes leave of the bundle
table (O35, O39). -/

namespace Sys2Proof.Machine

/-- What a command of a commit comes to: the commit begins, goes on, fails or succeeds, behind a write to the memory. -/
theorem CommitEffect.elim {P : State → Prop} {s t : State} (h : CommitEffect s t) (begin : P s.beginCommit)
    (next : ∀ nv r phase page, P ((s.setNv nv).continueCommit r phase page))
    (fail : ∀ nv r cause, P ((s.setNv nv).failCommit r cause)) (done : ∀ nv r, P ((s.setNv nv).endCommit r))
    (stopped : ∀ r, P (s.stopOperation.failCommit r .nvwe)) : P t := by
  cases h with
  | begin => exact begin
  | erase =>
    simp only [State.eraseDone]
    split
    · split
      · exact next _ _ _ _
      · split
        · exact next _ _ _ _
        · exact next _ _ _ _
    · exact fail _ _ _
  | program =>
    simp only [State.programDone]
    split
    · split
      · exact next _ _ _ _
      · exact next _ _ _ _
    · exact fail _ _ _
  | generation =>
    simp only [State.generationDone]
    split
    · exact next _ _ _ _
    · exact fail _ _ _
  | marker =>
    simp only [State.markerDone]
    split
    · exact done _ _
    · exact fail _ _ _
  | nvwe => exact stopped _

end Sys2Proof.Machine

namespace Sys2Proof.Safety

open Sys2Proof.Claim Sys2Proof.Machine

/-! ### Outboxes -/

/-- The law of one outbox (R101). -/
def BoxSound (r : ClientRuntime) : Prop :=
  r.outbox.length ≤ 8 ∧ ∀ (i : Nat) (h : i < r.outbox.length), (r.outbox[i]).seq = r.nextNotice - BitVec.ofNat 8 (r.outbox.length - i)

theorem BoxSound.congr {r q : ClientRuntime} (h : BoxSound r) (outbox : q.outbox = r.outbox) (next : q.nextNotice = r.nextNotice) :
    BoxSound q := by
  simpa only [BoxSound, outbox, next] using h

theorem BoxSound.of_empty {r : ClientRuntime} (h : r.outbox = []) : BoxSound r := by simp [BoxSound, h]

theorem BoxSound.append {r : ClientRuntime} (h : BoxSound r) (room : r.outbox.length < 8) (body : NoticeBody) :
    BoxSound (r.append body) := by
  obtain ⟨-, seqs⟩ := h
  refine ⟨by simp [ClientRuntime.append]; omega, fun i hi => ?_⟩
  have bound : i < r.outbox.length + 1 := by simpa [ClientRuntime.append] using hi
  have number : (r.append body).nextNotice - BitVec.ofNat 8 ((r.append body).outbox.length - i) =
      r.nextNotice - BitVec.ofNat 8 (r.outbox.length - i) := by
    have length : (r.append body).outbox.length - i = (r.outbox.length - i) + 1 := by
      simp only [ClientRuntime.append, List.length_append, List.length_singleton]
      omega
    rw [length, ClientRuntime.append, BitVec.ofNat_add]
    dsimp only
    generalize BitVec.ofNat 8 (r.outbox.length - i) = k
    bv_omega
  rw [number]
  by_cases old : i < r.outbox.length
  · rw [← seqs i old]
    simp only [ClientRuntime.append, List.getElem_append_left old]
  · obtain rfl : i = r.outbox.length := by omega
    simp [ClientRuntime.append]

theorem BoxSound.resync (r : ClientRuntime) : BoxSound r.resync := by
  refine ⟨by simp [ClientRuntime.resync], fun i hi => ?_⟩
  have zero : i = 0 := by simpa [ClientRuntime.resync] using hi
  subst zero
  simp [ClientRuntime.resync]

/-- The end of an outbox. -/
theorem BoxSound.suffix {r : ClientRuntime} (h : BoxSound r) {l : List Notice} (sub : l <:+ r.outbox) : BoxSound { r with outbox := l } := by
  obtain ⟨len, seqs⟩ := h
  obtain ⟨old, whole⟩ := sub
  rw [← whole, List.length_append] at len
  refine ⟨by dsimp only; omega, fun i hi => ?_⟩
  dsimp only at hi ⊢
  have seq := seqs (old.length + i) (by rw [← whole, List.length_append]; omega)
  simp only [← whole, List.length_append] at seq
  rw [List.getElem_append_right (by omega)] at seq
  simp only [Nat.add_sub_cancel_left, Nat.add_sub_add_left] at seq
  exact seq

theorem acknowledge_suffix (n : Byte) (l : List Notice) : acknowledge n l <:+ l := by
  unfold acknowledge
  split
  · exact (List.tail_suffix _).trans (List.dropWhile_suffix _)
  · exact List.suffix_rfl

/-! ### The Attention Set -/

theorem bumpCount_ne_zero {n : Byte} (h : n ≠ 0#8) : bumpCount n ≠ 0#8 := by
  unfold bumpCount
  split
  · exact h
  · next small =>
    intro zero
    refine small ?_
    bv_omega

/-- The law of the Attention Set (R153, R155). -/
def AttnSound (a : AttentionSet) : Prop :=
  a.entries.length ≤ 48 ∧ (a.entries.map fun e => e.what).Nodup ∧ (∀ e ∈ a.entries, e.count ≠ 0#8) ∧ (a.overflow = true → a.entries ≠ [])

theorem AttnSound.post {a : AttentionSet} (h : AttnSound a) (what : Attention) (now : Word) : AttnSound (a.post what now) := by
  obtain ⟨len, distinct, counts, overflow⟩ := h
  unfold AttentionSet.post
  split
  · refine ⟨by simpa using len, ?_, fun e he => ?_, fun set none => overflow set (List.map_eq_nil_iff.1 none)⟩
    · have same : ((fun e : AttentionEntry => e.what) ∘ fun e => if e.what = what then { e with count := bumpCount e.count } else e) =
          fun e => e.what := by
        funext e
        simp only [Function.comp_apply]
        split
        · rfl
        · rfl
      rw [List.map_map, same]
      exact distinct
    · obtain ⟨e, mem, rfl⟩ := List.mem_map.1 he
      split
      · exact bumpCount_ne_zero (counts e mem)
      · exact counts e mem
  · next fresh =>
    split
    · next room =>
      refine ⟨by simp; omega, ?_, fun e he => ?_, by simp⟩
      · rw [List.map_append]
        refine List.nodup_append.2 ⟨distinct, by simp, fun x hx y hy eq => fresh ?_⟩
        obtain ⟨e, he, rfl⟩ := List.mem_map.1 hx
        have hy : y = what := by simpa using hy
        exact List.any_eq_true.2 ⟨e, he, by simp [eq, hy]⟩
      · obtain mem | mem := List.mem_append.1 he
        · exact counts e mem
        · rw [List.mem_singleton.1 mem]
          exact (by decide : (1#8 : Byte) ≠ 0#8)
    · next full =>
      refine ⟨len, distinct, counts, fun _ none => full ?_⟩
      dsimp only at none
      simp [none]

theorem AttnSound.fetch {a : AttentionSet} (h : AttnSound a) : AttnSound a.fetch := by
  obtain ⟨len, distinct, counts, overflow⟩ := h
  refine ⟨?_, ?_, fun e he => counts e (List.mem_of_mem_tail he), fun set none => ?_⟩
  · simp only [AttentionSet.fetch, List.length_tail]
    omega
  · exact distinct.sublist ((List.tail_sublist _).map _)
  · simp only [AttentionSet.fetch] at set none
    simp [none] at set

/-! ### Both laws under the operations -/

/-- The Attention Set and every outbox are sound. -/
structure FlagsSound (s : State) : Prop where
  attn : AttnSound s.attn
  boxes : ∀ c : Slot, BoxSound s.ct[c]

namespace FlagsSound

variable {s t : State}

theorem congr (h : FlagsSound s) (attn : t.attn = s.attn) (ct : t.ct = s.ct) : FlagsSound t :=
  ⟨attn ▸ h.attn, fun c => ct ▸ h.boxes c⟩

theorem postAttention (h : FlagsSound s) (what : Attention) : FlagsSound (s.postAttention what) := ⟨h.attn.post what _, h.boxes⟩

theorem setClient (h : FlagsSound s) (c : Slot) {r : ClientRuntime} (box : BoxSound r) : FlagsSound (s.setClient c r) := by
  refine ⟨h.attn, fun d => ?_⟩
  have get : (s.setClient c r).ct[d] = if d = c then r else s.ct[d] := vector_get_set _ _ _ _
  rw [get]
  split
  · exact box
  · exact h.boxes d

theorem foldl {α : Type} {f : State → α → State} (keep : ∀ s a, FlagsSound s → FlagsSound (f s a)) (l : List α) :
    ∀ s, FlagsSound s → FlagsSound (l.foldl f s) := by
  induction l with
  | nil => exact fun _ => id
  | cons a l ih => exact fun s h => ih _ (keep s a h)

theorem postNotice (h : FlagsSound s) (c : Slot) (body : NoticeBody) : FlagsSound (s.postNotice c body) := by
  unfold State.postNotice
  split
  · split
    · exact h.setClient c ((h.boxes c).append ‹_› body)
    · exact (h.setClient c (.resync _)).postAttention _
  · exact h

theorem disposeZone (h : FlagsSound s) (b : BundleId) (d : ExpiryPolicy) (z : ZoneId) : FlagsSound (s.disposeZone b d z) := by
  cases d with
  | free => exact h.congr rfl rfl
  | fence =>
    simp only [State.disposeZone, State.fenceUnit]
    have dropped : FlagsSound (s.setZone z
      { s.ge.zones[z] with holders := s.ge.zones[z].holders.erase b, fences := s.ge.zones[z].fences + 1 }) := h.congr rfl rfl
    split
    · exact dropped.postAttention _
    · exact dropped

theorem endBundle (h : FlagsSound s) (b : BundleId) (d : ZoneId → ExpiryPolicy) : FlagsSound (s.endBundle b d) :=
  (foldl (fun _ z k => k.disposeZone b (d z) z) _ s h).congr rfl rfl

theorem endBundles (h : FlagsSound s) (bs : List BundleId) (d : ZoneId → ExpiryPolicy) : FlagsSound (s.endBundles bs d) :=
  foldl (fun _ b k => k.endBundle b d) bs s h

theorem giveUpZones (h : FlagsSound s) (b : BundleId) (y : Bundle) (given : List ZoneId) : FlagsSound (s.giveUpZones b y given) := by
  have dropped : FlagsSound (given.foldl (fun t z => t.dropHolder b z) s) :=
    foldl (f := fun t z => t.dropHolder b z) (fun _ _ k => k.congr rfl rfl) given s h
  simp only [State.giveUpZones]
  split
  · exact dropped.congr rfl rfl
  · exact dropped.congr rfl rfl

theorem releaseBundles (h : FlagsSound s) (bs : List BundleId) : FlagsSound (s.releaseBundles bs) := by
  refine foldl (fun t b k => ?_) bs s h
  unfold State.releaseBundle
  split
  · exact k.giveUpZones b _ _
  · exact k

theorem createBundle (h : FlagsSound s) (b : BundleId) (c : Slot) (tag : Byte) (term : Half) (zs : List ZoneId) :
    FlagsSound (s.createBundle b c tag term zs) := by
  rw [createBundle_eq]
  exact h.congr rfl rfl

theorem scan (h : FlagsSound s) : FlagsSound s.requestScan := by
  refine requestScan_keeps (fun {t b} e _ k => ?_) h
  have made := k.createBundle b e.client e.tag e.term e.zones
  exact (made.congr (t := (t.createBundle b e.client e.tag e.term e.zones).setEntries
    ((t.createBundle b e.client e.tag e.term e.zones).ge.entries.erase e)) rfl rfl).postNotice _ _

theorem silenceCut (h : FlagsSound s) (c : Slot) : FlagsSound (s.silenceCut c) := by
  refine foldl (fun t b k => ?_) _ s h
  unfold State.cutBundle
  split
  · dsimp only
    split
    · exact k.congr rfl rfl
    · exact k
  · exact k

theorem silenceWithdrawal (h : FlagsSound s) (c : Slot) : FlagsSound (s.silenceWithdrawal c) := by
  unfold State.silenceWithdrawal
  split
  · exact (h.congr (t := s.removeEntry c) rfl rfl).postNotice _ _
  · exact h

theorem fallSilent (h : FlagsSound s) (c : Slot) : FlagsSound (s.fallSilent c) := by
  have quiet := (((h.setClient c (r := { s.ct[c] with state := .silent }) ((h.boxes c).congr rfl rfl)).silenceWithdrawal c).silenceCut
    c).postAttention (.silent c)
  simp only [State.fallSilent]
  split
  · exact quiet.scan
  · exact quiet

theorem miss (h : FlagsSound s) (c : Slot) : FlagsSound (s.miss c) := by
  unfold State.miss
  split
  · have counted := h.setClient c (r := { s.ct[c] with misses := s.ct[c].misses + 1 }) ((h.boxes c).congr rfl rfl)
    dsimp only
    split
    · exact counted.fallSilent c
    · exact counted
  · exact h

theorem acceptReply (h : FlagsSound s) (c : Slot) (ack : Option Byte) : FlagsSound (s.acceptReply c ack) := by
  rw [acceptReply_eq]
  let r : ClientRuntime := { s.ct[c] with
    state := if s.ct[c].state = .silent then .joined else s.ct[c].state
    misses := 0
    outbox := match ack with | some n => acknowledge n s.ct[c].outbox | none => s.ct[c].outbox }
  have box : BoxSound r := by
    refine ((h.boxes c).suffix (l := r.outbox) ?_).congr rfl rfl
    cases ack with
    | none => exact List.suffix_rfl
    | some n => exact acknowledge_suffix n _
  refine ⟨?_, (h.setClient c box).boxes⟩
  dsimp only
  split
  · exact h.attn.post _ _
  · exact h.attn

theorem evaluate (h : FlagsSound s) (c : Slot) (req : Request) : FlagsSound (s.evaluate c req).1 := by
  generalize (s.evaluate c req).1 = t, evaluate_effect s c req = effect
  cases effect with
  | nothing => exact h
  | newSession => exact h.setClient c ((h.boxes c).congr rfl rfl)
  | freshSession => exact (((h.endBundles _ _).congr (t := State.removeEntry _ c) rfl rfl).setClient c (.of_empty rfl)).scan
  | leave => exact (((h.releaseBundles _).congr (t := State.removeEntry _ c) rfl rfl).setClient c (.of_empty rfl)).scan
  | grant => exact h.createBundle _ _ _ _ _
  | wait => exact h.congr rfl rfl
  | cancel => exact (h.congr (t := s.removeEntry c) rfl rfl).scan
  | renew => exact h.congr rfl rfl
  | release => exact (h.giveUpZones _ _ _).scan

theorem handleRequest (h : FlagsSound s) (c : Slot) (seq : RequestSeq) (req : Request) : FlagsSound (s.handleRequest c seq req).1 := by
  unfold State.handleRequest
  split
  · exact h
  · have evaluated := h.evaluate c req
    exact evaluated.setClient c ((evaluated.boxes c).congr rfl rfl)

theorem bar (h : FlagsSound s) (c : Slot) (d : ExpiryPolicy) : FlagsSound (s.barClient c d) := by
  simp only [State.barClient]
  rw [markDiscard_es]
  refine scan ?_
  exact (((h.endBundles _ _).congr (t := State.removeEntry _ c) rfl rfl).setClient c (.of_empty rfl)).congr rfl rfl

theorem tables (effect : TableEffect s t) (h : FlagsSound s) : FlagsSound t := by
  cases effect with
  | lapse =>
    unfold State.lapseBundle
    split
    · exact ((h.endBundle _ _).postNotice _ _).scan
    · exact h.congr rfl rfl
  | waits => exact (foldl (fun _ e k => k.postAttention (.waiting e.client)) _ s h).congr rfl rfl
  | miss => exact h.miss _
  | idle _ ack => exact h.acceptReply _ ack
  | request _ seq ack req => exact (h.acceptReply _ ack).handleRequest _ seq req
  | fault b => exact h.postAttention _
  | close => exact h.congr rfl rfl
  | opening _ z => exact (h.congr (t := s.setZone z _) rfl rfl).scan
  | clear _ z => exact (h.congr (t := s.setZone z _) rfl rfl).scan
  | revoke _ d => exact ((h.endBundle _ _).postNotice _ _).scan
  | withdraw => exact ((h.congr (t := s.removeEntry _) rfl rfl).postNotice _ _).scan
  | bar _ d => exact h.bar _ d
  | unbar => exact h.setClient _ ((h.boxes _).congr rfl rfl)
  | fetch => exact ⟨h.attn.fetch, h.boxes⟩

theorem of_resetValues (h : ResetValues s) : FlagsSound s where
  attn := by
    obtain ⟨none, overflow⟩ := h.attentions
    simp [AttnSound, none, overflow]
  boxes c := .of_empty (by rw [h.clients c])

theorem replaceCatalogue (h : FlagsSound s) (cat : Catalogue) (dirty : Bool) : FlagsSound (s.replaceCatalogue cat dirty) := by
  refine ⟨h.attn, fun c => ?_⟩
  have record : (s.replaceCatalogue cat dirty).ct[c] =
    recordAfterEdit s.cu.catalogue.clients[c].enabled cat.clients[c].enabled s.ct[c] := vector_get_ofFn _ _
  rw [record, recordAfterEdit]
  split
  · exact h.boxes c
  · exact .of_empty rfl

theorem catalogue (effect : CatalogueEffect s t) (h : FlagsSound s) : FlagsSound t := by
  cases effect with
  | zone | parameters | freeze => exact h.congr rfl rfl
  | client | clear | revert => exact h.replaceCatalogue _ _

theorem faulted {a : AttentionSet} (h : AttnSound a) (s : State) (b : Bank) : AttnSound (faultPosted s b a) := by
  unfold faultPosted
  split
  · exact h.post _ _
  · exact h

theorem load (h : FlagsSound s) : FlagsSound s.loadCatalogue := by
  have ended := endBoot_ended s.chosen (chooseBank (classifyBank s.cm.nv 0) (classifyBank s.cm.nv 1)).isSome
  rw [loadCatalogue_eq]
  refine congr (s := s.chosen) ⟨faulted (faulted h.attn s 0) s 1, fun c => ?_⟩ ended.attn ended.ct
  simpa [State.chosen] using BoxSound.of_empty (r := freshClient) rfl

theorem stop (h : FlagsSound s) : FlagsSound s.stopService := by
  refine ⟨h.attn, fun c => ?_⟩
  have record : s.stopService.ct[c] = stoppedClient (s.inUse c) s.ct[c] := vector_get_ofFn _ _
  rw [record, stoppedClient]
  split
  · exact .of_empty rfl
  · exact h.boxes c

theorem followReasons (h : FlagsSound s) : FlagsSound s.followReasons := by
  unfold State.followReasons
  split
  · exact h.congr rfl rfl
  · split
    · exact scan (h.congr (t := { s with mc := { s.mc with mode := .serving } }) rfl rfl)
    · exact h

theorem respond (h : FlagsSound s) (r : Result) (contents : List Byte) : FlagsSound (s.respond r contents) :=
  h.congr (SameCore.respond s r contents).attn (SameCore.respond s r contents).ct

theorem failCommit (h : FlagsSound s) (r : CommitRecord) (cause : CommitCause) : FlagsSound (s.failCommit r cause) :=
  ((h.postAttention (.nvFault r.target)).congr (t := { s.postAttention (.nvFault r.target) with
    cm := { s.cm with commit := none, commitState := .failed } }) rfl rfl).respond _ _

theorem memory (effect : CommitEffect s t) (h : FlagsSound s) : FlagsSound t := by
  have set : ∀ nv, FlagsSound (s.setNv nv) := fun nv => h.congr rfl rfl
  refine effect.elim ?_ (fun nv r phase page => (set nv).congr rfl rfl) (fun nv r cause => (set nv).failCommit r cause)
    (fun nv r => ?_) fun r => failCommit ?_ r .nvwe
  · simp only [State.beginCommit]
    exact h.congr rfl rfl
  · exact ((set nv).congr (t := { s.setNv nv with
      cm := { (s.setNv nv).cm with active := some (r.target, r.generation), commit := none, commitState := .succeeded }
      cu := { s.cu with dirty := false } }) rfl rfl).respond _ _
  · unfold State.stopOperation
    split
    · exact h.congr rfl rfl
    · exact h

theorem effect {i : Instr} (effect : Effect i s t) (h : FlagsSound s) : FlagsSound t := by
  cases effect with
  | nothing => exact h
  | tables _ table => exact h.tables table
  | memory _ memory => exact h.memory memory
  | catalogue _ catalogue => exact h.catalogue catalogue
  | tick => exact h.congr rfl rfl
  | reset => exact .of_resetValues (takeReset_values s _ _ _)
  | lineReset => exact .of_resetValues (resetValues_rst (takeReset_values s _ _ _) true)
  | rstReleased => exact h.congr rfl rfl
  | load => exact h.load
  | stopin _ line =>
    unfold State.setLine
    dsimp only
    split
    · exact followReasons (h.congr rfl rfl)
    · exact h.congr rfl rfl
  | start => exact h.congr rfl rfl
  | stop => exact h.stop
  | command => exact followReasons (h.congr rfl rfl)

end FlagsSound

/-! ### Hold reasons -/

/-- With no reason present and the mode not HOLD, or the reverse, both laws of the hold reasons follow. -/
theorem holdReasons_congr {s t : State} (mode : t.mc.mode = s.mc.mode) (command : t.mc.holdCommand = s.mc.holdCommand)
    (line : t.mc.holdLine = s.mc.holdLine) (h : HoldReasons s) : HoldReasons t := by
  rw [HoldReasons, mode, command, line]
  exact h

/-- The laws of R172 and R180. -/
structure ReasonsSound (s : State) : Prop where
  reasons : HoldReasons s
  line : LineFollowsStopin s

namespace ReasonsSound

variable {s t : State}

theorem congr (h : ReasonsSound s) (mc : t.mc = s.mc) : ReasonsSound t := by
  obtain ⟨reasons, line⟩ := h
  constructor
  · rwa [HoldReasons, mc]
  · rwa [LineFollowsStopin, State.inService, mc]

/-- Outside SERVING and HOLD no reason is present. -/
theorem of_out (mode : t.mc.mode = .boot ∨ t.mc.mode = .config) (command : t.mc.holdCommand = false) (line : t.mc.holdLine = false) :
    ReasonsSound t := by
  constructor
  · rw [HoldReasons, command, line]
    obtain boot | config := mode
    · simp [boot]
    · simp [config]
  · intro served
    obtain boot | config := mode
    · simp [State.inService, boot] at served
    · simp [State.inService, config] at served

/-- Outside HOLD no reason is present. -/
theorem none (h : ReasonsSound s) (mode : s.mc.mode ≠ .hold) : s.mc.holdCommand = false ∧ s.mc.holdLine = false := by
  have := mt h.reasons.1 mode
  simpa only [not_or, Bool.not_eq_true] using this

/-- The mode follows the reasons. -/
theorem followReasons (line : s.mc.holdLine = s.mc.stopin) : ReasonsSound s.followReasons := by
  obtain ⟨present, same⟩ | ⟨⟨command, noLine⟩, hold, same⟩ | ⟨⟨command, noLine⟩, notHold, same⟩ := followReasons_cases s
  · rw [same]
    exact ⟨iff_of_true present rfl, fun _ => line⟩
  · rw [same]
    have mc := (requestScan_tables { s with mc := { s.mc with mode := .serving } }).mc
    refine congr (s := { s with mc := { s.mc with mode := .serving } }) ⟨iff_of_false ?_ Mode.noConfusion, fun _ => line⟩ mc
    rw [not_or]
    exact ⟨by simp [command], by simp [noLine]⟩
  · rw [same]
    refine ⟨iff_of_false ?_ notHold, fun _ => line⟩
    rw [not_or]
    exact ⟨by simp [command], by simp [noLine]⟩

/-- The part in service with no COMMAND reason. -/
theorem of_entered (mode : t.mc.mode = if t.mc.stopin then .hold else .serving) (command : t.mc.holdCommand = false)
    (line : t.mc.holdLine = t.mc.stopin) : ReasonsSound t := by
  refine ⟨?_, fun _ => line⟩
  rw [HoldReasons, command, line, mode]
  cases t.mc.stopin with
  | true => decide
  | false => decide

theorem load (h : ReasonsSound s) (mode : s.mc.mode = .boot) : ReasonsSound s.loadCatalogue := by
  obtain ⟨command, line⟩ := h.none (by rw [mode]; decide)
  rw [loadCatalogue_eq]
  by_cases auto : (chooseBank (classifyBank s.cm.nv 0) (classifyBank s.cm.nv 1)).isSome = true ∧ s.chosen.mc.startChoice = .auto ∧
      s.chosen.cu.catalogue.params.autostart = true
  · rw [endBoot_of_autostart _ auto]
    exact .of_entered rfl rfl rfl
  · rw [endBoot_of_config _ auto]
    exact .of_out (.inr rfl) command line

theorem effect {i : Instr} (effect : Effect i s t) (h : ReasonsSound s) : ReasonsSound t := by
  cases effect with
  | nothing => exact h
  | tables _ table => exact h.congr table.control.mc
  | memory _ memory => exact h.congr memory.leases.mc
  | catalogue _ catalogue => exact h.congr catalogue.besides.mc
  | tick => exact h.congr rfl
  | reset => exact .of_out (.inl rfl) rfl rfl
  | lineReset => exact .of_out (.inl rfl) rfl rfl
  | rstReleased => exact ⟨h.reasons, h.line⟩
  | load mode => exact h.load mode
  | stopin _ line =>
    cases served : s.inService with
    | false =>
      rw [setLine_of_not_served served]
      exact ⟨h.reasons, fun again => absurd (served.symm.trans again) (by simp)⟩
    | true =>
      rw [setLine_of_served served]
      exact followReasons (s := { s with mc := { s.mc with stopin := line, holdLine := line } }) rfl
  | start => exact .of_entered rfl rfl rfl
  | stop mode =>
    obtain ⟨command, line⟩ := h.none (by rw [mode]; decide)
    exact .of_out (.inr rfl) command line
  | command served present =>
    exact followReasons (s := { s with mc := { s.mc with holdCommand := present } }) (h.line served)

end ReasonsSound

/-- Settles O60: ports, link and exchange have no part in these laws, and every effect of a command keeps them. -/
theorem stepKeepsFlagsSound : Obligations.StepKeepsFlagsSound := by
  unfold Obligations.StepKeepsFlagsSound
  intro s t attn boxes reasons line step
  obtain ⟨flags, held⟩ := step_keeps (P := fun u => FlagsSound u ∧ ReasonsSound u)
    (fun same h => ⟨h.1.congr same.attn same.ct, h.2.congr same.mc⟩) (fun effect h => ⟨h.1.effect effect, h.2.effect effect⟩)
    (fun _ _ h => ⟨h.1.congr rfl rfl, h.2.congr rfl⟩) step ⟨⟨attn, boxes⟩, reasons, line⟩
  exact ⟨flags.attn, flags.boxes, held.reasons, held.line⟩

/-! ### The bundles of other clients (O35) -/

/-- The bundle stays through a scan. -/
theorem scan_bundle_stays {s : State} {b : BundleId} {y : Bundle} (h : s.ge.bundles[b] = some y) :
    s.requestScan.ge.bundles[b] = some y := by
  refine requestScan_keeps (P := fun t => t.ge.bundles[b] = some y) (fun {t d} e slot ht => ?_) h
  have other : b ≠ d := fun same => by
    rw [same, (freeSlot_eq_some.1 slot).1] at ht
    exact absurd ht (by simp)
  rw [grantEntry_bundle, if_neg other, ht]

theorem evaluate_bundle_stays {s : State} {c : Slot} {b : BundleId} {y : Bundle} (h : s.ge.bundles[b] = some y) (other : y.holder ≠ c)
    (req : Request) : (s.evaluate c req).1.ge.bundles[b] = some y := by
  have notOwn : b ∉ s.bundlesOf c := fun mem => by
    obtain ⟨x, hx, holder⟩ := mem_bundlesOf.1 mem
    exact other (Option.some.inj (hx.symm.trans h) ▸ holder)
  have differs : ∀ {d : BundleId} {x : Bundle}, s.ge.bundles[d] = some x → x.holder = c → b ≠ d := fun {d x} hx holder same => by
    subst same
    exact other (Option.some.inj (hx.symm.trans h) ▸ holder)
  generalize (s.evaluate c req).1 = t, evaluate_effect s c req = effect
  cases effect with
  | nothing | newSession | wait => exact h
  | freshSession =>
    refine scan_bundle_stays ?_
    show (s.endBundles (s.bundlesOf c) s.policyOf).ge.bundles[b] = some y
    rw [endBundles_bundle, if_neg notOwn, h]
  | leave =>
    refine scan_bundle_stays ?_
    show (s.releaseBundles (s.bundlesOf c)).ge.bundles[b] = some y
    rw [releaseBundles_bundle, if_neg notOwn, h]
  | @grant d zs _ _ _ _ _ slot _ tag term =>
    have fresh : b ≠ d := fun same => by
      rw [same, (freeSlot_eq_some.1 slot).1] at h
      exact absurd h (by simp)
    rw [← granted_all, granted_bundle, if_neg fresh, h]
  | cancel => exact scan_bundle_stays h
  | @renew d x live holder term deadline renews =>
    have table : (s.reschedule d { x with term := term, deadline := deadline, renews := renews }).ge.bundles[b] =
      if b = d then some { x with term := term, deadline := deadline, renews := renews } else s.ge.bundles[b] := vector_get_set _ _ _ _
    rw [table, if_neg (differs live holder), h]
  | release live holder =>
    refine scan_bundle_stays ?_
    rw [giveUpZones_bundle, if_neg (differs live holder), h]

theorem heard_ge (s : State) (x : Exchange) (ack : Option Byte) : (heard s x ack).ge = s.ge := by
  rw [heard, acceptReply_eq]

/-- An IDLE is heard and ends the exchange. -/
theorem deliverReply_idle {s : State} {x : Exchange} {w : Nat} {d : Bool} (awaiting : s.es.exchange = .awaiting x w d)
    (stands : s.exchangeStands x = true) (ack : Option Byte) :
    s.deliverReply (.idle ack) = (heard s x ack).setExchange .gap := by
  rw [deliverReply_awaiting s awaiting]
  exact if_pos stands

/-- A REQUEST is heard and handled, and the exchange is ANSWERING. -/
theorem deliverReply_request {s : State} {x : Exchange} {w : Nat} {d : Bool} (awaiting : s.es.exchange = .awaiting x w d)
    (stands : s.exchangeStands x = true) (seq : RequestSeq) (ack : Option Byte) (req : Request) :
    s.deliverReply (.request seq ack req) = ((heard s x ack).handleRequest x.target seq req).1.setExchange
      (.answering x ((heard s x ack).handleRequest x.target seq req).2 false) := by
  rw [deliverReply_awaiting s awaiting]
  exact if_pos stands

/-- A reply of a client that the exchange was not begun with any more only ends the exchange. -/
theorem deliverReply_gone {s : State} {x : Exchange} {w : Nat} {d : Bool} (awaiting : s.es.exchange = .awaiting x w d)
    (gone : ¬ s.exchangeStands x = true) (reply : Reply) :
    s.deliverReply reply = State.setExchange { s with li := { s.li with receiver := .hunt, lineHeld := false } } .gap := by
  rw [deliverReply_awaiting s awaiting]
  exact if_neg gone

/-- The rows of replies deliver them. -/
theorem exec_requestRow (s : State) (seq : RequestSeq) (ack : Option Byte) (req : Request) :
    exec (requestRow seq ack req) s = .next (s.deliverReply (.request seq ack req)) := by
  cases req <;> rfl

theorem handleRequest_ge (s : State) (c : Slot) (seq : RequestSeq) (req : Request) :
    (s.handleRequest c seq req).1.ge = s.ge ∨ (s.handleRequest c seq req).1.ge = (s.evaluate c req).1.ge := by
  unfold State.handleRequest
  split
  · exact .inl rfl
  · exact .inr rfl

/-- Settles O35: an IDLE changes no bundle, and a request those of its client only. -/
theorem repliesTouchNoOtherClientsBundle : Obligations.RepliesTouchNoOtherClientsBundle := by
  unfold Obligations.RepliesTouchNoOtherClientsBundle
  intro s t x w d row awaiting isReply run b y hb other
  obtain ⟨reply, delivers⟩ : ∃ reply, exec row s = .next (s.deliverReply reply) := by
    obtain ⟨ack, rfl⟩ | ⟨seq, ack, req, rfl⟩ := isReply
    · exact ⟨.idle ack, rfl⟩
    · exact ⟨.request seq ack req, exec_requestRow s seq ack req⟩
  rw [delivers] at run
  obtain rfl := Host.Outcome.next.inj run
  by_cases stands : s.exchangeStands x = true
  · cases reply with
    | idle ack => rwa [deliverReply_idle awaiting stands, setExchange_ge, heard_ge]
    | request seq ack req =>
      rw [deliverReply_request awaiting stands, setExchange_ge]
      obtain same | evaluated := handleRequest_ge (heard s x ack) x.target seq req
      · rwa [same, heard_ge]
      · rw [evaluated]
        exact evaluate_bundle_stays ((heard_ge s x ack).symm ▸ hb) other req
  · rwa [deliverReply_gone awaiting stands]

end Sys2Proof.Safety

/-! Outside SERVING no slot of the bundle table is filled (O39). -/

namespace Sys2Proof.Safety

open Sys2Proof.Claim Sys2Proof.Machine

/-- The slot `b` is empty and the mode is not SERVING. -/
structure EmptyUnserved (b : BundleId) (s : State) : Prop where
  mode : s.mc.mode ≠ .serving
  slot : s.ge.bundles[b] = none

namespace EmptyUnserved

variable {b : BundleId} {s t : State}

theorem congr (h : EmptyUnserved b s) (mc : t.mc = s.mc) (bundles : t.ge.bundles = s.ge.bundles) : EmptyUnserved b t :=
  ⟨mc ▸ h.mode, bundles ▸ h.slot⟩

theorem foldl {α : Type} {f : State → α → State} (keep : ∀ s a, EmptyUnserved b s → EmptyUnserved b (f s a)) (l : List α) :
    ∀ s, EmptyUnserved b s → EmptyUnserved b (l.foldl f s) := by
  induction l with
  | nil => exact fun _ => id
  | cons a l ih => exact fun s h => ih _ (keep s a h)

/-- No scan runs. -/
theorem scan (h : EmptyUnserved b s) : EmptyUnserved b s.requestScan := by rwa [requestScan_of_not_serving h.mode]

theorem postNotice (h : EmptyUnserved b s) (c : Slot) (body : NoticeBody) : EmptyUnserved b (s.postNotice c body) := by
  rw [postNotice_eq]
  exact h.congr rfl rfl

theorem endBundle (h : EmptyUnserved b s) (d : BundleId) (p : ZoneId → ExpiryPolicy) : EmptyUnserved b (s.endBundle d p) := by
  refine ⟨(endBundle_tables s d p).mc ▸ h.mode, ?_⟩
  rw [endBundle_bundle, h.slot, ite_self]

theorem endBundles (h : EmptyUnserved b s) (bs : List BundleId) (p : ZoneId → ExpiryPolicy) : EmptyUnserved b (s.endBundles bs p) :=
  foldl (fun _ d k => k.endBundle d p) bs s h

theorem releaseBundles (h : EmptyUnserved b s) (bs : List BundleId) : EmptyUnserved b (s.releaseBundles bs) := by
  refine ⟨(releaseBundles_tables s bs).mc ▸ h.mode, ?_⟩
  rw [releaseBundles_bundle, h.slot, ite_self]

theorem giveUpZones (h : EmptyUnserved b s) {d : BundleId} {y : Bundle} (live : s.ge.bundles[d] = some y) (given : List ZoneId) :
    EmptyUnserved b (s.giveUpZones d y given) := by
  refine ⟨(giveUpZones_tables s d y given).mc ▸ h.mode, ?_⟩
  have other : b ≠ d := fun same => absurd (h.slot.symm.trans (same ▸ live)) (by simp)
  rw [giveUpZones_bundle, if_neg other, h.slot]

theorem reschedule (h : EmptyUnserved b s) {d : BundleId} {y : Bundle} (live : s.ge.bundles[d] = some y) (x : Bundle) :
    EmptyUnserved b (s.reschedule d x) := by
  have other : b ≠ d := fun same => absurd (h.slot.symm.trans (same ▸ live)) (by simp)
  have table : (s.reschedule d x).ge.bundles[b] = if b = d then some x else s.ge.bundles[b] := vector_get_set _ _ _ _
  exact ⟨h.mode, by rw [table, if_neg other, h.slot]⟩

theorem silenceCut (h : EmptyUnserved b s) (c : Slot) : EmptyUnserved b (s.silenceCut c) := by
  refine foldl (fun t d k => ?_) _ s h
  unfold State.cutBundle
  split
  · next live =>
    dsimp only
    split
    · exact k.reschedule live _
    · exact k
  · exact k

theorem silenceWithdrawal (h : EmptyUnserved b s) (c : Slot) : EmptyUnserved b (s.silenceWithdrawal c) := by
  unfold State.silenceWithdrawal
  split
  · exact (h.congr (t := s.removeEntry c) rfl rfl).postNotice _ _
  · exact h

theorem fallSilent (h : EmptyUnserved b s) (c : Slot) : EmptyUnserved b (s.fallSilent c) := by
  have quiet := (((h.congr (t := s.setClient c { s.ct[c] with state := .silent }) rfl rfl).silenceWithdrawal c).silenceCut c).congr
    (t := State.postAttention _ (.silent c)) rfl rfl
  simp only [State.fallSilent]
  split
  · exact quiet.scan
  · exact quiet

theorem miss (h : EmptyUnserved b s) (c : Slot) : EmptyUnserved b (s.miss c) := by
  unfold State.miss
  split
  · have counted := h.congr (t := s.setClient c { s.ct[c] with misses := s.ct[c].misses + 1 }) rfl rfl
    dsimp only
    split
    · exact counted.fallSilent c
    · exact counted
  · exact h

theorem acceptReply (h : EmptyUnserved b s) (c : Slot) (ack : Option Byte) : EmptyUnserved b (s.acceptReply c ack) := by
  rw [acceptReply_eq]
  exact h.congr rfl rfl

theorem evaluate (h : EmptyUnserved b s) (c : Slot) (req : Request) : EmptyUnserved b (s.evaluate c req).1 := by
  generalize (s.evaluate c req).1 = t, evaluate_effect s c req = effect
  cases effect with
  | nothing => exact h
  | newSession => exact h.congr rfl rfl
  | freshSession => exact scan ((h.endBundles (s.bundlesOf c) s.policyOf).congr rfl rfl)
  | leave => exact scan ((h.releaseBundles (s.bundlesOf c)).congr rfl rfl)
  | grant mode => exact absurd mode h.mode
  | wait => exact h.congr rfl rfl
  | cancel => exact (h.congr (t := s.removeEntry c) rfl rfl).scan
  | renew live => exact h.reschedule live _
  | release live => exact (h.giveUpZones live _).scan

theorem handleRequest (h : EmptyUnserved b s) (c : Slot) (seq : RequestSeq) (req : Request) :
    EmptyUnserved b (s.handleRequest c seq req).1 := by
  unfold State.handleRequest
  split
  · exact h
  · exact (h.evaluate c req).congr rfl rfl

theorem examineWaits (h : EmptyUnserved b s) : EmptyUnserved b s.examineWaits :=
  h.congr (examineWaits_tables s).mc (by rw [examineWaits_ge])

theorem tables (effect : TableEffect s t) (h : EmptyUnserved b s) : EmptyUnserved b t := by
  cases effect with
  | lapse =>
    unfold State.lapseBundle
    split
    · exact ((h.endBundle _ _).postNotice _ _).scan
    · next empty =>
      refine ⟨h.mode, ?_⟩
      simp only [State.removeBundle, dequeueExpiry_ge, setBundle_ge, vector_get_set, h.slot, ite_self]
  | waits => exact h.examineWaits
  | miss => exact h.miss _
  | idle _ ack => exact h.acceptReply _ ack
  | request _ seq ack req => exact (h.acceptReply _ ack).handleRequest _ seq req
  | fault | close | unbar | fetch => exact h.congr rfl rfl
  | opening _ z => exact (h.congr (t := s.setZone z _) rfl rfl).scan
  | clear _ z => exact (h.congr (t := s.setZone z _) rfl rfl).scan
  | revoke _ d => exact ((h.endBundle _ _).postNotice _ _).scan
  | withdraw => exact ((h.congr (t := s.removeEntry _) rfl rfl).postNotice _ _).scan
  | @bar c _ d =>
    simp only [State.barClient]
    rw [markDiscard_es]
    exact scan ((h.endBundles (s.bundlesOf c) fun _ => d).congr rfl rfl)

end EmptyUnserved

/-- With a change of the hold reasons nothing is granted unless the mode becomes SERVING. -/
theorem followReasons_slot {s : State} {b : BundleId} (mode : s.followReasons.mc.mode ≠ .serving) (slot : s.ge.bundles[b] = none) :
    s.followReasons.ge.bundles[b] = none := by
  obtain ⟨-, same⟩ | ⟨-, -, same⟩ | ⟨-, -, same⟩ := followReasons_cases s
  · rwa [same]
  · exact absurd (by rw [same, (requestScan_tables _).mc]) mode
  · rwa [same]

theorem effect_slot {i : Instr} {s t : State} (effect : Effect i s t) (before : s.mc.mode ≠ .serving) (after : t.mc.mode ≠ .serving)
    {b : BundleId} (slot : s.ge.bundles[b] = none) : t.ge.bundles[b] = none := by
  cases effect with
  | nothing | tick | rstReleased | start | stop => exact slot
  | tables _ table => exact (EmptyUnserved.tables table ⟨before, slot⟩).slot
  | memory _ memory => rwa [memory.leases.ge]
  | catalogue _ catalogue => rwa [catalogue.besides.ge]
  | reset => exact (takeReset_values s _ _ _).bundles b
  | lineReset => exact (takeReset_values s .line .auto false).bundles b
  | load =>
    have ended := endBoot_ended s.chosen (chooseBank (classifyBank s.cm.nv 0) (classifyBank s.cm.nv 1)).isSome
    rw [loadCatalogue_eq, ended.ge]
    exact slot
  | stopin _ line =>
    cases served : s.inService with
    | false => rwa [setLine_of_not_served served]
    | true =>
      rw [setLine_of_served served] at after ⊢
      exact followReasons_slot after slot
  | command => exact followReasons_slot after slot

/-- Settles O39: every effect of a command outside SERVING leaves an empty slot empty. -/
theorem noGrantOutsideServing : Obligations.NoGrantOutsideServing := by
  unfold Obligations.NoGrantOutsideServing
  intro i s t run before after b slot
  obtain ⟨u, v, hu, effect, hv⟩ := acts_of_exec run
  rw [hv.ge]
  rw [← hu.ge] at slot
  exact effect_slot effect (hu.mc ▸ before) (hv.mc ▸ after) slot

end Sys2Proof.Safety

/-! Layouts and readings of the catalogue's image (R159, R160): O48 and O4. -/

namespace Sys2Proof.Machine

open Sys2Proof.Claim

/-! ### Numbers in bytes (R183) -/

theorem halfBytes_eq_be16 (h : Half) : halfBytes h = be16 h := by
  have high : (h >>> 8).truncate 8 = h.extractLsb' 8 8 := BitVec.eq_of_toNat_eq (by simp)
  have low : h.truncate 8 = h.extractLsb' 0 8 := BitVec.eq_of_toNat_eq (by simp)
  rw [halfBytes, high, low]
  rfl

theorem wordByte_eq (w : Word) (i : Nat) : wordByte w i = w.extractLsb' (8 * (3 - i)) 8 :=
  BitVec.eq_of_toNat_eq (by simp [wordByte])

theorem wordBytes_eq_be32 (w : Word) : wordBytes w = be32 w := by
  simp only [wordBytes, wordByte_eq]
  rfl

theorem halfOf_halfBytes (h : Half) : halfOf ((h >>> 8).truncate 8) (h.truncate 8) = h := by
  refine BitVec.eq_of_getLsbD_eq fun i hi => ?_
  simp only [halfOf, BitVec.getLsbD_append, BitVec.truncate_eq_setWidth, BitVec.getLsbD_setWidth, BitVec.getLsbD_ushiftRight]
  by_cases low : i < 8
  · simp [low]
  · have : i - 8 < 8 := by omega
    simp [low, this, show 8 + (i - 8) = i by omega]

theorem readFlag_flagByte (f : Bool) : readFlag (flagByte f) = f := by
  cases f with
  | true => decide
  | false => decide

theorem numByte_toNat {n : Nat} (h : n < 256) : (numByte n).toNat = n := by
  rw [numByte, BitVec.toNat_ofNat]
  omega

theorem policyOfByte_policyByte (p : ExpiryPolicy) : policyOfByte (policyByte p) = some p := by
  cases p with
  | free => decide
  | fence => decide

theorem linkRateOfByte_linkRateByte (r : LinkRate) : linkRateOfByte (linkRateByte r) = some r := by
  cases r <;> decide

/-! ### Records read back (O48) -/

theorem parseZoneRecord_bytes {r : ZoneRecord} (h : r.Valid) : parseZoneRecord (zoneRecordBytes r) = some r := by
  have capacity : (numByte r.capacity).toNat = r.capacity := numByte_toNat (by have := h.2.1; omega)
  have cls : (numByte r.cls.val).toNat = r.cls.val := numByte_toNat (by omega)
  have small : (numByte r.cls.val).toNat < 16 := by rw [cls]; exact r.cls.isLt
  have same : (⟨(numByte r.cls.val).toNat, small⟩ : Fin 16) = r.cls := Fin.ext cls
  simp only [zoneRecordBytes, halfBytes, List.cons_append, List.nil_append, parseZoneRecord, policyOfByte_policyByte, dif_pos small,
    readFlag_flagByte, capacity, same, halfOf_halfBytes]
  exact if_pos h

theorem parseClientRecord_bytes {r : ClientRecord} (h : r.Valid) : parseClientRecord (clientRecordBytes r) = some r := by
  have ⟨_, address, _, limit⟩ := h
  simp only [clientRecordBytes, halfBytes, List.cons_append, List.nil_append, parseClientRecord, readFlag_flagByte,
    numByte_toNat (show r.address < 256 by omega), numByte_toNat (show r.bundleLimit < 256 by omega), halfOf_halfBytes]
  exact if_pos h

theorem parseParameters_bytes {p : Parameters} (h : p.Valid) : parseParameters (parameterBytes p) = some p := by
  have ⟨⟨_, tick⟩, ⟨_, window⟩, ⟨_, limit⟩, _, interval⟩ := h
  simp only [parameterBytes, halfBytes, List.cons_append, List.nil_append, parseParameters, linkRateOfByte_linkRateByte,
    readFlag_flagByte, numByte_toNat (show p.tickPeriod < 256 by omega), numByte_toNat (show p.replyWindow < 256 by omega),
    numByte_toNat (show p.missLimit < 256 by omega), numByte_toNat (show p.rollCallInterval < 256 by omega), halfOf_halfBytes]
  exact if_pos h

/-- Records written one after another read back. -/
theorem parseRecords_flatMap {α : Type} {size : Nat} {parse : List Byte → Option α} {write : α → List Byte} (l : List α)
    (rest : List Byte) (length : ∀ a, (write a).length = size) (back : ∀ a ∈ l, parse (write a) = some a) :
    parseRecords size parse l.length (l.flatMap write ++ rest) = some l := by
  induction l with
  | nil => rfl
  | cons a l ih =>
    obtain ⟨first, others⟩ := List.forall_mem_cons.1 back
    rw [List.length_cons, List.flatMap_cons, List.append_assoc, parseRecords, List.take_left' (length a), List.drop_left' (length a),
      first, ih others]

theorem tableOfList_toList {α : Type} {n : Nat} (v : Vector α n) : tableOfList n v.toList = some v := by
  rw [tableOfList, dif_pos v.length_toList]
  rfl

theorem length_flatMap_const {α : Type} {size : Nat} {write : α → List Byte} (length : ∀ a, (write a).length = size) (l : List α) :
    (l.flatMap write).length = l.length * size := by
  simp [List.length_flatMap, length]

theorem zoneRecordBytes_length (r : ZoneRecord) : (zoneRecordBytes r).length = 8 := rfl

theorem clientRecordBytes_length (r : ClientRecord) : (clientRecordBytes r).length = 5 := rfl

theorem parameterBytes_length (p : Parameters) : (parameterBytes p).length = 10 := rfl

theorem catalogueBytes_length (cat : Catalogue) : (catalogueBytes cat).length = 1194 := by
  simp only [catalogueBytes, List.length_append, length_flatMap_const zoneRecordBytes_length,
    length_flatMap_const clientRecordBytes_length, parameterBytes_length, Vector.length_toList]

theorem catalogue_valid_iff (cat : Catalogue) : cat.valid = true ↔ (∀ r ∈ cat.zones.toList, r.Valid) ∧
    (∀ r ∈ cat.clients.toList, r.Valid) ∧ cat.params.Valid ∧ addressesDistinct cat.clients = true := by
  simp only [Catalogue.valid, Bool.and_eq_true, List.all_eq_true, decide_eq_true_eq, and_assoc]

/-- A valid catalogue reads back from its bytes. -/
theorem parseCatalogue_bytes {cat : Catalogue} (h : cat.valid = true) : parseCatalogue (catalogueBytes cat) = some cat := by
  obtain ⟨zones, clients, params, distinct⟩ := (catalogue_valid_iff cat).1 h
  have zoneBytes : (cat.zones.toList.flatMap zoneRecordBytes).length = 1024 := by
    rw [length_flatMap_const zoneRecordBytes_length, Vector.length_toList]
  have clientBytes : (cat.clients.toList.flatMap clientRecordBytes).length = 160 := by
    rw [length_flatMap_const clientRecordBytes_length, Vector.length_toList]
  have first := parseRecords_flatMap (parse := parseZoneRecord) cat.zones.toList
    (cat.clients.toList.flatMap clientRecordBytes ++ parameterBytes cat.params) zoneRecordBytes_length
    fun r hr => parseZoneRecord_bytes (zones r hr)
  have second := parseRecords_flatMap (parse := parseClientRecord) cat.clients.toList (parameterBytes cat.params)
    clientRecordBytes_length fun r hr => parseClientRecord_bytes (clients r hr)
  rw [Vector.length_toList] at first second
  have third : (catalogueBytes cat).drop 1184 = parameterBytes cat.params :=
    List.drop_left' (by rw [List.length_append, zoneBytes, clientBytes])
  rw [parseCatalogue, third]
  rw [catalogueBytes, List.append_assoc, List.drop_left' zoneBytes, first, second, parseParameters_bytes params]
  simp only [Option.bind_some, tableOfList_toList, distinct, if_true]

/-- Settles O48. -/
theorem catalogueImageReadsBack : Obligations.CatalogueImageReadsBack := by
  unfold Obligations.CatalogueImageReadsBack
  exact fun cat valid => ⟨catalogueBytes_length cat, parseCatalogue_bytes valid⟩

/-! ### What a reading of bytes finds (O4) -/

theorem parseZoneRecord_eq_some {bytes : List Byte} {r : ZoneRecord} : parseZoneRecord bytes = some r ↔ ZoneStored bytes r ∧ r.Valid := by
  constructor
  · intro h
    refine ⟨?_, Acts.parseZoneRecord_valid h⟩
    unfold parseZoneRecord at h
    split at h
    · next en cap cl pol t1 t0 lim sc rest =>
      split at h
      · exact absurd h (by simp)
      · next p policy =>
        split at h
        · dsimp only at h
          split at h
          · obtain rfl := Option.some.inj h
            refine ⟨en, cap, cl, pol, t1, t0, lim, sc, rest, rfl, rfl, rfl, rfl, ?_, rfl, rfl, rfl⟩
            unfold policyOfByte at policy
            split at policy
            · next code => exact code.trans (by rw [← Option.some.inj policy])
            · split at policy
              · next code => exact code.trans (by rw [← Option.some.inj policy])
              · exact absurd policy (by simp)
          · exact absurd h (by simp)
        · exact absurd h (by simp)
    · exact absurd h (by simp)
  · rintro ⟨⟨en, cap, cl, pol, t1, t0, lim, sc, rest, rfl, enabled, capacity, cls, policy, term, limit, closed⟩, valid⟩
    have small : cl.toNat < 16 := cls ▸ r.cls.isLt
    have read : policyOfByte pol = some r.policy := by
      rw [policy]
      cases r.policy with
      | free => decide
      | fence => decide
    have same : r =
        { enabled := readFlag en, capacity := cap.toNat, cls := ⟨cl.toNat, small⟩, policy := r.policy, maxTerm := halfOf t1 t0,
          renewalLimit := lim, startClosed := readFlag sc } := by
      obtain ⟨_, _, _, _, _, _, _⟩ := r
      simp only at enabled capacity cls term limit closed
      simp only [ZoneRecord.mk.injEq, readFlag, halfOf]
      exact ⟨enabled, capacity, Fin.ext cls, trivial, term, limit, closed⟩
    simp only [parseZoneRecord, read, dif_pos small]
    rw [← same, if_pos valid]

theorem parseClientRecord_eq_some {bytes : List Byte} {r : ClientRecord} :
    parseClientRecord bytes = some r ↔ ClientStored bytes r ∧ r.Valid := by
  constructor
  · intro h
    refine ⟨?_, Acts.parseClientRecord_valid h⟩
    unfold parseClientRecord at h
    split at h
    · next en ad p1 p0 lim rest =>
      dsimp only at h
      split at h
      · obtain rfl := Option.some.inj h
        exact ⟨en, ad, p1, p0, lim, rest, rfl, rfl, rfl, rfl, rfl⟩
      · exact absurd h (by simp)
    · exact absurd h (by simp)
  · rintro ⟨⟨en, ad, p1, p0, lim, rest, rfl, enabled, address, permissions, limit⟩, valid⟩
    have same : r = { enabled := readFlag en, address := ad.toNat, permissions := halfOf p1 p0, bundleLimit := lim.toNat } := by
      obtain ⟨_, _, _, _⟩ := r
      simp only at enabled address permissions limit
      simp only [ClientRecord.mk.injEq, readFlag, halfOf]
      exact ⟨enabled, address, permissions, limit⟩
    simp only [parseClientRecord]
    rw [← same, if_pos valid]

theorem linkRateOfByte_eq_some {b : Byte} {r : LinkRate} : linkRateOfByte b = some r ↔ linkRateCode r = b := by
  constructor
  · intro h
    unfold linkRateOfByte at h
    split_ifs at h
    all_goals
      obtain rfl := Option.some.inj h
      exact Eq.symm ‹b = _›
  · rintro rfl
    cases r <;> decide

theorem parseParameters_eq_some {bytes : List Byte} {p : Parameters} :
    parseParameters bytes = some p ↔ ParametersStored bytes p ∧ p.Valid := by
  constructor
  · intro h
    refine ⟨?_, Acts.parseParameters_valid h⟩
    unfold parseParameters at h
    split at h
    · next tp rate rw ml rc g1 g0 w1 w0 au rest =>
      split at h
      · exact absurd h (by simp)
      · next r read =>
        dsimp only at h
        split at h
        · obtain rfl := Option.some.inj h
          exact ⟨tp, rate, rw, ml, rc, g1, g0, w1, w0, au, rest, rfl, rfl, linkRateOfByte_eq_some.1 read, rfl, rfl, rfl, rfl, rfl, rfl⟩
        · exact absurd h (by simp)
    · exact absurd h (by simp)
  · rintro ⟨⟨tp, rate, rw, ml, rc, g1, g0, w1, w0, au, rest, rfl, tick, link, window, limit, interval, grace, alarm, auto⟩, valid⟩
    have same : p =
        { tickPeriod := tp.toNat, linkRate := p.linkRate, replyWindow := rw.toNat, missLimit := ml.toNat,
          rollCallInterval := rc.toNat, silenceGrace := halfOf g1 g0, waitAlarm := halfOf w1 w0, autostart := readFlag au } := by
      obtain ⟨_, _, _, _, _, _, _, _⟩ := p
      simp only at tick window limit interval grace alarm auto
      simp only [Parameters.mk.injEq, readFlag, halfOf]
      exact ⟨tick, trivial, window, limit, interval, grace, alarm, auto⟩
    simp only [parseParameters, linkRateOfByte_eq_some.2 link]
    rw [← same, if_pos valid]

/-- A record at the front of the first bytes stands at the front of the bytes. -/
theorem zoneStored_take {bytes : List Byte} {r : ZoneRecord} : ZoneStored (bytes.take 8) r ↔ ZoneStored bytes r := by
  constructor
  · rintro ⟨en, cap, cl, pol, t1, t0, lim, sc, rest, front, fields⟩
    refine ⟨en, cap, cl, pol, t1, t0, lim, sc, rest ++ bytes.drop 8, ?_, fields⟩
    conv_lhs => rw [← List.take_append_drop 8 bytes, front]
    rfl
  · rintro ⟨en, cap, cl, pol, t1, t0, lim, sc, rest, rfl, fields⟩
    exact ⟨en, cap, cl, pol, t1, t0, lim, sc, [], rfl, fields⟩

theorem clientStored_take {bytes : List Byte} {r : ClientRecord} : ClientStored (bytes.take 5) r ↔ ClientStored bytes r := by
  constructor
  · rintro ⟨en, ad, p1, p0, lim, rest, front, fields⟩
    refine ⟨en, ad, p1, p0, lim, rest ++ bytes.drop 5, ?_, fields⟩
    conv_lhs => rw [← List.take_append_drop 5 bytes, front]
    rfl
  · rintro ⟨en, ad, p1, p0, lim, rest, rfl, fields⟩
    exact ⟨en, ad, p1, p0, lim, [], rfl, fields⟩

/-- Records are read one after another. -/
theorem parseRecords_eq_some {α : Type} {size n : Nat} {parse : List Byte → Option α} {bytes : List Byte} {l : List α} :
    parseRecords size parse n bytes = some l ↔
      l.length = n ∧ ∀ (i : Nat) (h : i < l.length), parse ((bytes.drop (size * i)).take size) = some l[i] := by
  induction n generalizing bytes l with
  | zero =>
    constructor
    · intro h
      obtain rfl := Option.some.inj h
      simp
    · rintro ⟨length, -⟩
      rw [List.length_eq_zero_iff.1 length]
      rfl
  | succ n ih =>
    rw [parseRecords]
    cases l with
    | nil =>
      split
      · simp
      · simp
    | cons a l =>
      have rest : (∀ (i : Nat) (h : i < l.length), parse (((bytes.drop size).drop (size * i)).take size) = some l[i]) ↔
          ∀ (i : Nat) (h : i + 1 < (a :: l).length), parse ((bytes.drop (size * (i + 1))).take size) = some (a :: l)[i + 1] := by
        simp [List.drop_drop, Nat.mul_succ, Nat.add_comm]
      have all : (∀ (i : Nat) (h : i < (a :: l).length), parse ((bytes.drop (size * i)).take size) = some (a :: l)[i]) ↔
          parse (bytes.take size) = some a ∧
          ∀ (i : Nat) (h : i + 1 < (a :: l).length), parse ((bytes.drop (size * (i + 1))).take size) = some (a :: l)[i + 1] := by
        constructor
        · exact fun h => ⟨h 0 (Nat.succ_pos _), fun i hi => h (i + 1) hi⟩
        · rintro ⟨first, others⟩ i hi
          cases i with
          | zero => exact first
          | succ i => exact others i hi
      rw [all, ← rest, List.length_cons, Nat.add_right_cancel_iff]
      constructor
      · intro h
        split at h
        · next first others =>
          obtain ⟨rfl, rfl⟩ := List.cons.inj (Option.some.inj h)
          obtain ⟨length, each⟩ := ih.1 others
          exact ⟨length, first, each⟩
        · exact absurd h (by simp)
      · rintro ⟨length, first, each⟩
        rw [first, ih.2 ⟨length, each⟩]

theorem tableOfList_eq_some {α : Type} {n : Nat} {l : List α} {v : Vector α n} : tableOfList n l = some v ↔ l = v.toList := by
  constructor
  · intro h
    unfold tableOfList at h
    split at h
    · exact (congrArg Vector.toList (Option.some.inj h))
    · exact absurd h (by simp)
  · rintro rfl
    exact tableOfList_toList v

/-- A table of records is read from its bytes. -/
theorem parseTable_eq_some {α : Type} {size n : Nat} {parse : List Byte → Option α} {bytes : List Byte} {v : Vector α n} :
    (parseRecords size parse n bytes).bind (tableOfList n) = some v ↔
      ∀ i : Fin n, parse ((bytes.drop (size * i.val)).take size) = some v[i] := by
  rw [Option.bind_eq_some_iff]
  constructor
  · rintro ⟨l, records, table⟩ i
    obtain rfl := tableOfList_eq_some.1 table
    have each := (parseRecords_eq_some.1 records).2 i.val (by rw [Vector.length_toList]; exact i.isLt)
    simpa using each
  · intro each
    refine ⟨v.toList, parseRecords_eq_some.2 ⟨v.length_toList, fun i hi => ?_⟩, tableOfList_toList v⟩
    have hi' : i < n := by simpa using hi
    simpa using each ⟨i, hi'⟩

theorem addressesDistinct_iff (clients : Vector ClientRecord 32) : addressesDistinct clients = true ↔
    ∀ c d : Slot, c ≠ d → clients[c].enabled = true → clients[d].enabled = true → clients[c].address ≠ clients[d].address := by
  simp only [addressesDistinct, List.all_eq_true, List.mem_finRange, true_imp_iff, Bool.not_eq_true', Bool.eq_false_iff, ne_eq,
    Bool.and_eq_true, decide_eq_true_eq, beq_iff_eq]
  exact forall₂_congr fun c d =>
    ⟨fun h ne cEn dEn same => h ⟨⟨⟨ne, cEn⟩, dEn⟩, same⟩, fun h ⟨⟨⟨ne, cEn⟩, dEn⟩, same⟩ => h ne cEn dEn same⟩

theorem acceptable_iff (cat : Catalogue) : Acceptable cat ↔ (∀ z : ZoneId, cat.zones[z].Valid) ∧ (∀ c : Slot, cat.clients[c].Valid) ∧
    cat.params.Valid ∧ addressesDistinct cat.clients = true := by
  rw [addressesDistinct_iff]
  constructor
  · intro h
    exact ⟨h.zones, h.clients, ⟨h.tickPeriod, h.replyWindow, h.missLimit, h.rollCallInterval⟩, h.addresses⟩
  · rintro ⟨zones, clients, ⟨tick, window, limit, interval⟩, addresses⟩
    exact ⟨zones, clients, addresses, tick, window, limit, interval⟩

/-- What a reading of a catalogue finds (step 2 of R160). -/
theorem parseCatalogue_eq_some {bytes : List Byte} {cat : Catalogue} :
    parseCatalogue bytes = some cat ↔ CatalogueStored bytes cat ∧ Acceptable cat := by
  have zones : (parseRecords 8 parseZoneRecord 128 bytes).bind (tableOfList 128) = some cat.zones ↔
      (∀ z : ZoneId, ZoneStored (bytes.drop (8 * z.val)) cat.zones[z]) ∧ ∀ z : ZoneId, cat.zones[z].Valid := by
    rw [parseTable_eq_some, ← forall_and]
    exact forall_congr' fun z => by rw [parseZoneRecord_eq_some, zoneStored_take]
  have clients : (parseRecords 5 parseClientRecord 32 (bytes.drop 1024)).bind (tableOfList 32) = some cat.clients ↔
      (∀ c : Slot, ClientStored (bytes.drop (1024 + 5 * c.val)) cat.clients[c]) ∧ ∀ c : Slot, cat.clients[c].Valid := by
    rw [parseTable_eq_some, ← forall_and]
    exact forall_congr' fun c => by rw [parseClientRecord_eq_some, clientStored_take, List.drop_drop]
  have whole : parseCatalogue bytes = some cat ↔
      (parseRecords 8 parseZoneRecord 128 bytes).bind (tableOfList 128) = some cat.zones ∧
      (parseRecords 5 parseClientRecord 32 (bytes.drop 1024)).bind (tableOfList 32) = some cat.clients ∧
      parseParameters (bytes.drop 1184) = some cat.params ∧ addressesDistinct cat.clients = true := by
    unfold parseCatalogue
    split
    · next z c p hz hc hp =>
      rw [hz, hc, hp]
      obtain ⟨zs, cs, ps⟩ := cat
      split
      · next distinct =>
        simp only [Option.some.injEq, Catalogue.mk.injEq]
        exact ⟨fun ⟨a, b, e⟩ => ⟨a, b, e, b ▸ distinct⟩, fun ⟨a, b, e, _⟩ => ⟨a, b, e⟩⟩
      · next not =>
        refine ⟨fun h => absurd h (by simp), fun ⟨_, b, _, distinct⟩ => absurd (Option.some.inj b ▸ distinct) not⟩
    · next none => exact ⟨fun h => absurd h (by simp), fun ⟨a, b, e, _⟩ => absurd e (none _ _ _ a b)⟩
  rw [whole, zones, clients, parseParameters_eq_some, acceptable_iff]
  constructor
  · rintro ⟨⟨zones, zonesValid⟩, ⟨clients, clientsValid⟩, ⟨params, paramsValid⟩, distinct⟩
    exact ⟨⟨zones, clients, params⟩, zonesValid, clientsValid, paramsValid, distinct⟩
  · rintro ⟨⟨zones, clients, params⟩, zonesValid, clientsValid, paramsValid, distinct⟩
    exact ⟨⟨zones, zonesValid⟩, ⟨clients, clientsValid⟩, ⟨params, paramsValid⟩, distinct⟩

end Sys2Proof.Machine

/-! The conditions of the banks and the load (O4). -/

namespace Sys2Proof.Machine

open Sys2Proof.Claim

/-- The CRC-32 of an image is that of the layout. -/
theorem imageCrcOf_eq (bytes : List Byte) (g : Word) : imageCrcOf bytes g = imageCrc bytes g := by
  rw [imageCrcOf, imageCrc, crc32, wordBytes_eq_be32]
  rfl

theorem classifyBank_eq_unmarked {nv : List Host.Cell} {b : Bank} : classifyBank nv b = .unmarked ↔ markerBytes nv b ≠ validMarker := by
  unfold classifyBank
  split
  · simp [*]
  · next marked =>
    refine ⟨fun h => ?_, fun h => absurd h marked⟩
    split at h
    · exact absurd h (by simp)
    · split at h
      · exact absurd h (by simp)
      · split at h
        · exact absurd h (by simp)
        · exact absurd h (by simp)

/-- A VALID bank (R160). -/
theorem classifyBank_eq_valid {nv : List Host.Cell} {b : Bank} {g : Word} {cat : Catalogue} :
    classifyBank nv b = .valid g cat ↔ markerBytes nv b = validMarker ∧ g = storedGeneration nv b ∧ g ≠ 0#32 ∧ g ≠ 0xFFFFFFFF#32 ∧
      imageCrc (storedCatalogueBytes nv b) g = storedCrc nv b ∧ parseCatalogue (storedCatalogueBytes nv b) = some cat := by
  constructor
  · intro h
    unfold classifyBank at h
    split at h
    · exact absurd h (by simp)
    · next marked =>
      split at h
      · exact absurd h (by simp)
      · next range =>
        split at h
        · exact absurd h (by simp)
        · next crc =>
          split at h
          · next parsed =>
            obtain ⟨rfl, rfl⟩ := BankCondition.valid.inj h
            obtain ⟨low, high⟩ := not_or.1 range
            exact ⟨not_not.1 marked, rfl, low, high, not_not.1 crc, parsed⟩
          · exact absurd h (by simp)
  · rintro ⟨marked, rfl, low, high, crc, parsed⟩
    rw [classifyBank, if_neg (not_not.2 marked), if_neg (not_or.2 ⟨low, high⟩), if_neg (not_not.2 crc), parsed]

theorem classifyBank_cases (nv : List Host.Cell) (b : Bank) : classifyBank nv b = .unmarked ∨ classifyBank nv b = .corrupt ∨
    ∃ g cat, classifyBank nv b = .valid g cat := by
  cases h : classifyBank nv b with
  | unmarked => exact .inl rfl
  | corrupt => exact .inr (.inl rfl)
  | valid g cat => exact .inr (.inr ⟨g, cat, rfl⟩)

theorem classifyBank_eq_corrupt {nv : List Host.Cell} {b : Bank} : classifyBank nv b = .corrupt ↔
    markerBytes nv b = validMarker ∧ ∀ g cat, classifyBank nv b ≠ .valid g cat := by
  constructor
  · intro h
    refine ⟨?_, fun g cat valid => absurd (h.symm.trans valid) (by simp)⟩
    by_contra unmarked
    exact absurd (h.symm.trans (classifyBank_eq_unmarked.2 unmarked)) (by simp)
  · rintro ⟨marked, invalid⟩
    obtain unmarked | corrupt | ⟨g, cat, valid⟩ := classifyBank_cases nv b
    · exact absurd marked (classifyBank_eq_unmarked.1 unmarked)
    · exact corrupt
    · exact absurd valid (invalid g cat)

/-! ### The choice of the active bank (R162) -/

theorem chooseBank_both {g0 g1 : Word} {c0 c1 : Catalogue} : chooseBank (.valid g0 c0) (.valid g1 c1) =
    if g0.toNat < g1.toNat then some (1, g1, c1) else some (0, g0, c0) := rfl

theorem chooseBank_first {g0 : Word} {c0 : Catalogue} {other : BankCondition} (h : ∀ g c, other ≠ .valid g c) :
    chooseBank (.valid g0 c0) other = some (0, g0, c0) := by
  cases other with
  | unmarked | corrupt => rfl
  | valid g c => exact absurd rfl (h g c)

theorem chooseBank_second {g1 : Word} {c1 : Catalogue} {other : BankCondition} (h : ∀ g c, other ≠ .valid g c) :
    chooseBank other (.valid g1 c1) = some (1, g1, c1) := by
  cases other with
  | unmarked | corrupt => rfl
  | valid g c => exact absurd rfl (h g c)

theorem chooseBank_none {b0 b1 : BankCondition} (h0 : ∀ g c, b0 ≠ .valid g c) (h1 : ∀ g c, b1 ≠ .valid g c) : chooseBank b0 b1 = none := by
  cases b0 with
  | valid g c => exact absurd rfl (h0 g c)
  | unmarked | corrupt =>
    cases b1 with
    | valid g c => exact absurd rfl (h1 g c)
    | unmarked | corrupt => rfl

/-- The load takes the catalogue of the chosen bank. -/
theorem loadedFrom_of_choice {s : State} {b : Bank} {g : Word} {cat : Catalogue}
    (choice : chooseBank (classifyBank s.cm.nv 0) (classifyBank s.cm.nv 1) = some (b, g, cat)) : LoadedFrom s.loadCatalogue b g cat := by
  have ended := endBoot_ended s.chosen (chooseBank (classifyBank s.cm.nv 0) (classifyBank s.cm.nv 1)).isSome
  rw [loadCatalogue_eq, LoadedFrom, ended.cm, ended.cu]
  simp only [State.chosen, choice]
  exact ⟨rfl, rfl, rfl⟩

theorem blankCatalogue_eq : blankCatalogue = emptyCatalogue := rfl

/-- Settles O4, from the classification of a bank and the choice between two. -/
theorem loadChoosesActiveBank : Obligations.LoadChoosesActiveBank := by
  unfold Obligations.LoadChoosesActiveBank
  refine ⟨fun nv b => ?classified, fun s mode rst => ⟨_, exec_catalogueLoad mode rst, ?loaded⟩⟩
  case classified =>
    intro marked stored sound
    have valid : ∀ g cat, classifyBank nv b = .valid g cat ↔ marked ∧ sound g cat := fun g cat => by
      rw [classifyBank_eq_valid, parseCatalogue_eq_some]
      simp only [sound, imageCrcOf_eq]
      exact Iff.rfl
    refine ⟨classifyBank_eq_unmarked, valid, ?_⟩
    rw [classifyBank_eq_corrupt]
    refine and_congr_right fun isMarked => forall₂_congr fun g cat => ?_
    rw [Ne, valid]
    exact ⟨fun h isSound => h ⟨isMarked, isSound⟩, fun h both => h both.2⟩
  case loaded =>
    have ended := endBoot_ended s.chosen (chooseBank (classifyBank s.cm.nv 0) (classifyBank s.cm.nv 1)).isSome
    have whole := loadCatalogue_eq s
    refine ⟨by rw [whole, ended.cm]; rfl, by rw [whole, ended.cu]; rfl, by rw [whole, ended.attn]; rfl, fun c => ?_, ?both, ?first,
      ?second, ?none⟩
    · rw [whole, ended.ct]
      simp [State.chosen, freshClient]
    case both =>
      intro g0 c0 g1 c1 h0 h1
      have choice := chooseBank_both (g0 := g0) (g1 := g1) (c0 := c0) (c1 := c1)
      rw [← h0, ← h1] at choice
      split
      · next less => exact loadedFrom_of_choice (choice.trans (if_pos less))
      · next more => exact loadedFrom_of_choice (choice.trans (if_neg more))
    case first =>
      intro g0 c0 h0 h1
      exact loadedFrom_of_choice (by rw [h0, chooseBank_first h1])
    case second =>
      intro g1 c1 h1 h0
      exact loadedFrom_of_choice (by rw [h1, chooseBank_second h0])
    case none =>
      intro invalid
      have choice := chooseBank_none (invalid 0) (invalid 1)
      rw [whole, ended.cm, ended.cu]
      simp only [State.chosen, choice]
      exact ⟨rfl, rfl, rfl⟩

end Sys2Proof.Machine

/-! The catalogue memory under the operations of a commit: what each of them writes, and which bytes stay (O51). -/

namespace Sys2Proof.Machine

open Sys2Proof.Claim

/-! ### Bytes written -/

theorem nvWriteList_written {m : List Host.Cell} (wf : nvWf m = true) (a : Nat) (bytes : List Byte) :
    Written m (nvWriteList a bytes m) a bytes := by
  intro x
  split
  · next within =>
    have index : x - a < bytes.length := by omega
    have read := nvRead_nvWriteList_inside bytes a m wf (x - a) index
    rw [Nat.add_sub_cancel' within.1] at read
    rw [read, List.getD_eq_getElem _ _ index]
  · next out => exact nvRead_nvWriteList_outside bytes a m wf (by omega)

/-- What a programming leaves in its cells (R158). -/
def programmed (a : Nat) (bytes : List Byte) (m : List Host.Cell) : List Byte :=
  List.zipWith (fun old new => old &&& new) (nvReadList a bytes.length m) bytes

theorem nvReadList_length (a n : Nat) (m : List Host.Cell) : (nvReadList a n m).length = n := by simp [nvReadList]

theorem programmed_length (a : Nat) (bytes : List Byte) (m : List Host.Cell) : (programmed a bytes m).length = bytes.length := by
  simp [programmed, nvReadList_length]

theorem nvProgramList_written {m : List Host.Cell} (wf : nvWf m = true) (a : Nat) (bytes : List Byte) :
    Written m (nvProgramList a bytes m) a (programmed a bytes m) := by
  intro x
  rw [programmed_length]
  split
  · next within =>
    have index : x - a < bytes.length := by omega
    have read := nvRead_nvProgramList_inside bytes a m wf (x - a) index
    rw [Nat.add_sub_cancel' within.1] at read
    rw [read, List.getD_eq_getElem _ _ (by rwa [programmed_length])]
    simp [programmed, nvReadList, Nat.add_sub_cancel' within.1]
  · next out => exact nvRead_nvProgramList_outside bytes a m wf (by omega)

/-- A programming of erased cells leaves what was programmed. -/
theorem programmed_of_erased {a : Nat} {bytes : List Byte} {m : List Host.Cell}
    (erased : nvReadList a bytes.length m = List.replicate bytes.length 0xFF#8) : programmed a bytes m = bytes := by
  rw [programmed, erased]
  clear erased
  induction bytes with
  | nil => rfl
  | cons b bytes ih =>
    have same : (0xFF#8 : Byte) &&& b = b := BitVec.allOnes_and
    rw [List.length_cons, List.replicate_succ, List.zipWith_cons_cons, same, ih]

theorem nvReadList_congr {a n : Nat} {m m' : List Host.Cell} (h : ∀ i < n, nvRead (a + i) m' = nvRead (a + i) m) :
    nvReadList a n m' = nvReadList a n m := List.map_congr_left fun i hi => h i (List.mem_range.1 hi)

/-- A part of the bytes that were written. -/
theorem written_read {m m' : List Host.Cell} {base : Nat} {bytes : List Byte} (w : Written m m' base bytes) {k n : Nat}
    (fits : k + n ≤ bytes.length) : nvReadList (base + k) n m' = (bytes.drop k).take n := by
  refine nvReadList_eq (by rw [List.length_take, List.length_drop]; omega) fun i hi => ?_
  rw [List.length_take, List.length_drop] at hi
  rw [w, if_pos (by omega), List.getElem_take, List.getElem_drop, show base + k + i - base = k + i by omega,
    List.getD_eq_getElem _ _ (by omega)]

/-! ### Pages and banks -/

/-- The bytes of a page of a bank are those of before. -/
def PageKept (m m' : List Host.Cell) (d : Bank) (p : Nat) : Prop := ∀ j < 32, nvRead (nvAddress d p j) m' = nvRead (nvAddress d p j) m

theorem written_page {m m' : List Host.Cell} {target : Bank} {page i : Nat} {bytes : List Byte}
    (w : Written m m' (nvAddress target page i) bytes) (fits : i + bytes.length ≤ 32) (hp : page < 64) {d : Bank} {p : Nat}
    (h : p < 64) (other : d ≠ target ∨ p ≠ page) : PageKept m m' d p := by
  intro j hj
  rw [w, if_neg]
  simp only [nvAddress]
  obtain bank | page := other
  · have : d.val ≠ target.val := fun e => bank (Fin.ext e)
    omega
  · by_cases same : d.val = target.val
    · omega
    · omega

/-- The address of a byte of the image area, by its page. -/
theorem nvAddress_split (d : Bank) (i : Nat) : nvAddress d 0 0 + i = nvAddress d (i / 32) (i % 32) := by
  simp only [nvAddress]
  omega

theorem pageBytes_congr {m m' : List Host.Cell} {d : Bank} {p : Nat} (h : PageKept m m' d p) : pageBytes m' d p = pageBytes m d p := by
  refine nvReadList_congr fun i hi => ?_
  rw [show nvAddress d p 0 + i = nvAddress d p i by simp only [nvAddress]; omega]
  exact h i hi

theorem nvReadList_page {m m' : List Host.Cell} {d : Bank} {p : Nat} (h : PageKept m m' d p) {i n : Nat} (fits : i + n ≤ 32) :
    nvReadList (nvAddress d p i) n m' = nvReadList (nvAddress d p i) n m := by
  refine nvReadList_congr fun j hj => ?_
  rw [show nvAddress d p i + j = nvAddress d p (i + j) by simp only [nvAddress]; omega]
  exact h (i + j) (by omega)

theorem markerBytes_congr {m m' : List Host.Cell} {d : Bank} (h : PageKept m m' d 63) : markerBytes m' d = markerBytes m d :=
  nvReadList_page h (by omega)

theorem classify_of_pages {m m' : List Host.Cell} {d : Bank} (h : ∀ p < 64, PageKept m m' d p) : classifyBank m' d = classifyBank m d := by
  refine classify_congr fun a low high => ?_
  obtain ⟨i, rfl⟩ := Nat.exists_eq_add_of_le low
  have split := nvAddress_split d i
  rw [show nvAddress d 0 0 + i = d.val * 2048 + i by simp [nvAddress]] at split
  rw [split]
  exact h (i / 32) (by omega) (i % 32) (by omega)

/-! ### The page of an operation that is stopped -/

theorem fullPage_length (readBack : List Byte) : (fullPage readBack).length = 32 := by
  rw [fullPage, List.length_take, List.length_append, List.length_replicate]
  omega

theorem freeBytes_length (n count : Nat) : (freeBytes n count).length = count := by simp [freeBytes]

theorem withoutMarker_length {page : List Byte} (h : page.length = 32) : (withoutMarker page).length = 32 := by
  unfold withoutMarker
  split
  · simp [h]
  · exact h

/-- The valid marker is not present. -/
theorem withoutMarker_marker {page : List Byte} (h : page.length = 32) : ((withoutMarker page).drop 4).take 4 ≠ validMarker := by
  unfold withoutMarker
  split
  · have front : (page.take 4).length = 4 := by simp [h]
    rw [List.append_assoc, List.drop_left' front, List.take_left' (by simp)]
    decide
  · assumption

theorem erasedPage_length (page : Fin 64) (readBack : List Byte) : (erasedPage page readBack).length = 32 := by
  unfold erasedPage
  split
  · exact withoutMarker_length (fullPage_length readBack)
  · exact fullPage_length readBack

theorem partlyProgrammed_length_le (old wanted free : List Byte) : (partlyProgrammed old wanted free).length ≤ old.length := by
  simp only [partlyProgrammed, List.length_zipWith]
  omega

theorem pageBytes_length (nv : List Host.Cell) (b : Bank) (p : Nat) : (pageBytes nv b p).length = 32 := nvReadList_length _ _ _

theorem partlyProgrammed_length {old wanted free : List Byte} {n : Nat} (ho : old.length = n) (hw : wanted.length = n)
    (hf : free.length = n) : (partlyProgrammed old wanted free).length = n := by
  simp [partlyProgrammed, ho, hw, hf]

theorem stoppedPage_length_le (nv : List Host.Cell) (cat : Catalogue) (r : CommitRecord) (n : Nat) :
    (stoppedPage nv cat r n).length ≤ 32 := by
  have old := pageBytes_length nv r.target r.page.val
  unfold stoppedPage
  dsimp only
  split
  · split
    · exact (withoutMarker_length (freeBytes_length n 32)).le
    · exact (freeBytes_length n 32).le
  · exact (partlyProgrammed_length_le _ _ _).trans old.le
  · have part := partlyProgrammed_length (n := 4) (old := (pageBytes nv r.target r.page.val).take 4) (wanted := wordBytes r.generation)
      (by simp [old]) rfl (freeBytes_length n 4)
    rw [List.length_append, part, List.length_drop, old]
  · have part := partlyProgrammed_length (n := 4) (old := ((pageBytes nv r.target r.page.val).drop 4).take 4) (wanted := validMarker)
      (by simp [old]) rfl (freeBytes_length n 4)
    exact (withoutMarker_length (by simp [part, old])).le

theorem stopOperation_written {s : State} {r : CommitRecord} (wf : nvWf s.cm.nv = true) (runs : s.cm.commit = some r) :
    Written s.cm.nv s.stopOperation.cm.nv (nvAddress r.target r.page.val 0) (stoppedPage s.cm.nv s.cu.catalogue r s.freeCount) ∧
      nvWf s.stopOperation.cm.nv = true := by
  simp only [State.stopOperation, runs]
  exact ⟨nvWriteList_written wf _ _, nvWriteList_wf _ _ _ wf⟩

/-! ### Every operation of a commit writes in a page of its target -/

/-- The memory of `t` is that of `s` but for some bytes of a page of the bank `target`, in the canonical form. -/
structure WritesIn (s t : State) (target : Bank) : Prop where
  canonical : nvWf t.cm.nv = true
  page : ∃ (page i : Nat) (bytes : List Byte), page < 64 ∧ i + bytes.length ≤ 32 ∧ Written s.cm.nv t.cm.nv (nvAddress target page i) bytes

/-- Every other bank stays as it was. -/
theorem WritesIn.other {s t : State} {target d : Bank} (h : WritesIn s t target) (other : d ≠ target) {p : Nat} (hp : p < 64) :
    PageKept s.cm.nv t.cm.nv d p := by
  obtain ⟨page, i, bytes, small, fits, w⟩ := h.page
  exact written_page w fits small hp (.inl other)

theorem respond_cm (s : State) (r : Result) (contents : List Byte) : (s.respond r contents).cm = s.cm := (SameCore.respond s r contents).cm

theorem failCommit_nv (s : State) (r : CommitRecord) (cause : CommitCause) : (s.failCommit r cause).cm.nv = s.cm.nv := by
  simp only [State.failCommit, respond_cm, postAttention_cm]

theorem endCommit_nv (s : State) (r : CommitRecord) : (s.endCommit r).cm.nv = s.cm.nv := by
  simp only [State.endCommit, respond_cm]

theorem continueCommit_nv (s : State) (r : CommitRecord) (phase : CommitPhase) (page : Fin 64) :
    (s.continueCommit r phase page).cm.nv = s.cm.nv := rfl

theorem eraseDone_nv (s : State) (r : CommitRecord) (readBack : List Byte) : (s.eraseDone r readBack).cm.nv =
    nvWriteList (nvAddress r.target r.page.val 0) (erasedPage r.page readBack) s.cm.nv := by
  simp only [State.eraseDone]
  split_ifs
  · rw [continueCommit_nv, setNv_cm]
  · rw [continueCommit_nv, setNv_cm]
  · rw [continueCommit_nv, setNv_cm]
  · rw [failCommit_nv, setNv_cm]

theorem programDone_nv (s : State) (r : CommitRecord) (readBack : List Byte) : (s.programDone r readBack).cm.nv =
    nvProgramList (nvAddress r.target r.page.val 0) (fullPage readBack) s.cm.nv := by
  simp only [State.programDone]
  split_ifs
  · rw [continueCommit_nv, setNv_cm]
  · rw [continueCommit_nv, setNv_cm]
  · rw [failCommit_nv, setNv_cm]

theorem generationDone_nv (s : State) (r : CommitRecord) (readBack : List Byte) : (s.generationDone r readBack).cm.nv =
    nvProgramList (nvAddress r.target 63 0) ((fullPage readBack).take 4) s.cm.nv := by
  simp only [State.generationDone]
  split_ifs
  · rw [continueCommit_nv, setNv_cm]
  · rw [failCommit_nv, setNv_cm]

theorem markerDone_nv (s : State) (r : CommitRecord) (readBack : List Byte) : (s.markerDone r readBack).cm.nv =
    nvProgramList (nvAddress r.target 63 4) ((fullPage readBack).take 4) s.cm.nv := by
  simp only [State.markerDone]
  split_ifs
  · rw [endCommit_nv, setNv_cm]
  · rw [failCommit_nv, setNv_cm]

theorem writesIn_of_stop {s : State} {r : CommitRecord} (wf : nvWf s.cm.nv = true) (runs : s.cm.commit = some r) :
    WritesIn s s.stopOperation r.target := by
  obtain ⟨written, canonical⟩ := stopOperation_written wf runs
  refine ⟨canonical, r.page.val, 0, _, r.page.isLt, ?_, written⟩
  have := stoppedPage_length_le s.cm.nv s.cu.catalogue r s.freeCount
  omega

theorem writesIn_of_write {s t : State} {target : Bank} {page i : Nat} {bytes : List Byte} (wf : nvWf s.cm.nv = true) (hp : page < 64)
    (fits : i + bytes.length ≤ 32) (nv : t.cm.nv = nvWriteList (nvAddress target page i) bytes s.cm.nv) : WritesIn s t target :=
  ⟨nv ▸ nvWriteList_wf _ _ _ wf, page, i, bytes, hp, fits, nv ▸ nvWriteList_written wf _ _⟩

theorem writesIn_of_program {s t : State} {target : Bank} {page i : Nat} {bytes : List Byte} (wf : nvWf s.cm.nv = true) (hp : page < 64)
    (fits : i + bytes.length ≤ 32) (nv : t.cm.nv = nvProgramList (nvAddress target page i) bytes s.cm.nv) : WritesIn s t target :=
  ⟨nv ▸ nvProgramList_wf _ _ _ wf, page, i, programmed _ bytes _, hp, by rwa [programmed_length], nv ▸ nvProgramList_written wf _ _⟩

theorem beginCommit_nv (s : State) : s.beginCommit.cm.nv =
    nvWriteList (nvAddress (commitTarget s.cm.active).1 63 0) (List.replicate 32 erasedByte) s.cm.nv := by
  simp only [State.beginCommit]

/-- The bank that the effect of a commit writes. -/
def commitBank (s : State) : Bank :=
  match s.cm.commit with
  | some r => r.target
  | none => (commitTarget s.cm.active).1

theorem CommitEffect.writesIn {s t : State} (h : CommitEffect s t) (wf : nvWf s.cm.nv = true) : WritesIn s t (commitBank s) := by
  have page := erasedPage_length
  have full := fullPage_length
  cases h with
  | begin mode idle more =>
    rw [commitBank, idle]
    exact writesIn_of_write (page := 63) (i := 0) wf (by omega) (by simp) (beginCommit_nv s)
  | @erase r runs phase readBack =>
    rw [commitBank, runs]
    exact writesIn_of_write wf r.page.isLt (by rw [page]) (eraseDone_nv s r readBack)
  | @program r runs phase readBack =>
    rw [commitBank, runs]
    exact writesIn_of_program wf r.page.isLt (by rw [full]) (programDone_nv s r readBack)
  | @generation r runs phase readBack =>
    rw [commitBank, runs]
    exact writesIn_of_program wf (by omega) (by simp [full]) (generationDone_nv s r readBack)
  | @marker r runs phase readBack =>
    rw [commitBank, runs]
    exact writesIn_of_program wf (by omega) (by simp [full]) (markerDone_nv s r readBack)
  | nvwe runs =>
    rw [commitBank, runs]
    obtain ⟨canonical, pages⟩ := writesIn_of_stop wf runs
    exact ⟨by rwa [failCommit_nv], by rwa [failCommit_nv]⟩

theorem ne_otherBank : ∀ b : Bank, b ≠ otherBank b := by decide

/-- A commit never targets the active bank (R164, R165). -/
theorem commitBank_ne {s : State} (sound : Safety.CommitSound s) {b : Bank} {g : Word} (active : s.cm.active = some (b, g)) :
    b ≠ commitBank s := by
  unfold commitBank
  split
  · next runs => exact ((sound.2 _ runs).2 b g active).symm
  · rw [active]
    exact ne_otherBank b

theorem takeReset_nv_eq (s : State) (cause : ResetCause) (choice : StartChoice) (freeze : Bool) :
    (s.takeReset cause choice freeze).cm.nv = s.stopOperation.cm.nv := rfl

/-- A reset writes in the target of a running commit, and nowhere else. -/
theorem takeReset_other {s : State} (wf : nvWf s.cm.nv = true) {d : Bank} (other : d ≠ commitBank s) {p : Nat} (hp : p < 64)
    (cause : ResetCause) (choice : StartChoice) (freeze : Bool) : PageKept s.cm.nv (s.takeReset cause choice freeze).cm.nv d p := by
  rw [takeReset_nv_eq]
  cases runs : s.cm.commit with
  | none =>
    simp only [State.stopOperation, runs]
    exact fun _ _ => rfl
  | some r =>
    rw [commitBank, runs] at other
    exact (writesIn_of_stop wf runs).other other hp

theorem CatalogueEffect.cm {s t : State} (h : CatalogueEffect s t) : t.cm = s.cm := by
  cases h with
  | zone | client | parameters | clear | revert | freeze => rfl

theorem followReasons_cm (s : State) : s.followReasons.cm = s.cm := by
  obtain ⟨-, same⟩ | ⟨-, -, same⟩ | ⟨-, -, same⟩ := followReasons_cases s
  · rw [same]
  · rw [same, (requestScan_tables _).cm]
  · rw [same]

theorem setLine_cm (s : State) (line : Bool) : (s.setLine line).cm = s.cm := by
  cases served : s.inService with
  | false => rw [setLine_of_not_served served]
  | true => rw [setLine_of_served served, followReasons_cm]

/-- Every effect of a command leaves a bank that is not the target of a commit as it was. -/
theorem Effect.other {i : Instr} {s t : State} (effect : Effect i s t) (wf : nvWf s.cm.nv = true) {d : Bank}
    (other : d ≠ commitBank s) {p : Nat} (hp : p < 64) : PageKept s.cm.nv t.cm.nv d p := by
  have same : t.cm.nv = s.cm.nv → PageKept s.cm.nv t.cm.nv d p := fun nv _ _ => by rw [nv]
  cases effect with
  | nothing | tick | rstReleased | start | stop => exact fun _ _ => rfl
  | tables _ table => exact same (by rw [table.control.cm])
  | memory _ memory => exact (memory.writesIn wf).other other hp
  | catalogue _ catalogue => exact same (by rw [catalogue.cm])
  | reset => exact takeReset_other wf other hp _ _ _
  | lineReset => exact takeReset_other wf other hp .line .auto false
  | load =>
    refine same ?_
    have ended := endBoot_ended s.chosen (chooseBank (classifyBank s.cm.nv 0) (classifyBank s.cm.nv 1)).isSome
    rw [loadCatalogue_eq, ended.cm]
    rfl
  | stopin _ line => exact same (by rw [setLine_cm])
  | command => exact same (by rw [State.setCommand, followReasons_cm])

/-- Settles O51: only the target of a commit is ever written, and that is not the active bank. -/
theorem activeBankIsNeverWritten : Obligations.ActiveBankIsNeverWritten := by
  unfold Obligations.ActiveBankIsNeverWritten
  intro i s t b g wf sound run active page j hp hj
  obtain ⟨u, v, hu, effect, hv⟩ := acts_of_exec run
  have bank : commitBank u = commitBank s := by rw [commitBank, commitBank, hu.cm]
  have kept := effect.other (d := b) (p := page) (by rw [hu.cm]; exact wf) (by rw [bank]; exact commitBank_ne sound active) hp j hj
  rwa [hu.cm, ← hv.cm] at kept

end Sys2Proof.Machine

/-! The laws of the banks (O59). -/

namespace Sys2Proof.Machine

open Sys2Proof.Claim

/-! ### Valid catalogues -/

theorem forall_mem_toList {α : Type} {n : Nat} {v : Vector α n} {P : α → Prop} : (∀ a ∈ v.toList, P a) ↔ ∀ i : Fin n, P v[i] := by
  simp only [Vector.mem_toList_iff, Vector.mem_iff_getElem]
  constructor
  · intro h i
    exact h _ ⟨i.val, i.isLt, rfl⟩
  · rintro h _ ⟨i, hi, rfl⟩
    exact h ⟨i, hi⟩

/-- A valid catalogue, record by record. -/
theorem valid_iff (cat : Catalogue) : cat.valid = true ↔ (∀ z : ZoneId, cat.zones[z].Valid) ∧ (∀ c : Slot, cat.clients[c].Valid) ∧
    cat.params.Valid ∧ addressesDistinct cat.clients = true := by
  rw [catalogue_valid_iff, forall_mem_toList, forall_mem_toList]

theorem valid_of_parse {bytes : List Byte} {cat : Catalogue} (h : parseCatalogue bytes = some cat) : cat.valid = true :=
  (valid_iff cat).2 ((acceptable_iff cat).1 (parseCatalogue_eq_some.1 h).2)

theorem emptyCatalogue_valid : emptyCatalogue.valid = true := by
  refine (valid_iff _).2 ⟨fun z => ?_, fun c => ?_, by decide, (addressesDistinct_iff _).2 fun c d ne on => ?_⟩
  · simp only [emptyCatalogue, Fin.getElem_fin, Vector.getElem_replicate]
    decide
  · simp only [emptyCatalogue, vector_get_ofFn, defaultClient]
    have := c.isLt
    exact ⟨Nat.succ_pos _, show c.val + 1 ≤ 62 by omega, show 1 ≤ 4 by omega, show 4 ≤ 4 by omega⟩
  · simp only [emptyCatalogue, vector_get_ofFn, defaultClient] at on
    exact absurd on Bool.false_ne_true

theorem valid_setZone {cat : Catalogue} (h : cat.valid = true) (z : ZoneId) {r : ZoneRecord} (valid : r.Valid) :
    Catalogue.valid { cat with zones := cat.zones.set z r } = true := by
  obtain ⟨zones, clients, params, distinct⟩ := (valid_iff cat).1 h
  refine (valid_iff _).2 ⟨fun y => ?_, clients, params, distinct⟩
  dsimp only
  rw [vector_get_set]
  split
  · exact valid
  · exact zones y

theorem valid_setClient {cat : Catalogue} (h : cat.valid = true) (c : Slot) {r : ClientRecord} (valid : r.Valid)
    (own : ∀ d : Slot, d ≠ c → r.enabled = true → cat.clients[d].enabled = true → cat.clients[d].address ≠ r.address) :
    Catalogue.valid { cat with clients := cat.clients.set c r } = true := by
  obtain ⟨zones, clients, params, distinct⟩ := (valid_iff cat).1 h
  refine (valid_iff _).2 ⟨zones, fun d => ?_, params, (addressesDistinct_iff _).2 fun d e ne => ?_⟩
  · dsimp only
    rw [vector_get_set]
    split
    · exact valid
    · exact clients d
  · rw [vector_get_set, vector_get_set]
    split
    · next here =>
      rw [if_neg fun also => ne (here.trans also.symm)]
      exact fun on other => (own e (fun also => ne (here.trans also.symm)) on other).symm
    · next away =>
      split
      · exact fun other on => own d away on other
      · exact (addressesDistinct_iff _).1 distinct d e ne

theorem addressTaken_eq_false {s : State} {c : Slot} {r : ClientRecord} (h : s.addressTaken c r = false) :
    ∀ d : Slot, d ≠ c → r.enabled = true → s.cu.catalogue.clients[d].enabled = true → s.cu.catalogue.clients[d].address ≠ r.address := by
  intro d away on other same
  refine Bool.eq_false_iff.1 h ?_
  rw [State.addressTaken, on, Bool.true_and, List.any_eq_true]
  exact ⟨d, List.mem_finRange d, by simp [away, State.inUse, other, State.addressOf, same, -Fin.getElem_fin]⟩

/-! ### A bank that holds an image -/

theorem nvAddress_add (b : Bank) (p i j : Nat) : nvAddress b p (i + j) = nvAddress b p i + j := (Nat.add_assoc _ _ _).symm

theorem nvAddress_from (b : Bank) (p i : Nat) : nvAddress b p i = nvAddress b p 0 + i := by simp only [nvAddress, Nat.add_zero]

theorem nvReadList_get {a n : Nat} {m : List Host.Cell} {l : List Byte} (h : nvReadList a n m = l) {i : Nat} (hi : i < n) :
    nvRead (a + i) m = l.getD i 0#8 := by
  subst h
  rw [List.getD_eq_getElem _ _ (by rwa [nvReadList_length])]
  simp [nvReadList]

theorem imagePage_get (cat : Catalogue) (g : Word) (p : Nat) {j : Nat} (hj : j < 32) :
    (imagePage cat g p).getD j 0#8 = (imageBytes cat g).getD (32 * p + j) 0#8 := by
  simp [imagePage, List.getD_eq_getElem?_getD, hj]

/-- A bank whose pages hold the image of a valid catalogue, with the generation and the marker, is VALID. -/
theorem classify_of_image {nv : List Host.Cell} (wf : nvWf nv = true) {b : Bank} {cat : Catalogue} {g : Word} (valid : cat.valid = true)
    (g0 : g ≠ 0#32) (g1 : g ≠ 0xFFFFFFFF#32) (pages : ∀ p < 63, pageBytes nv b p = imagePage cat g p)
    (gen : nvReadList (nvAddress b 63 0) 4 nv = wordBytes g) (marker : markerBytes nv b = validMarker) :
    classifyBank nv b = .valid g cat := by
  have length := catalogueBytes_length cat
  rw [← classify_withImage wf b length (parseCatalogue_bytes valid) g0 g1]
  refine classify_congr fun a low high => ?_
  obtain ⟨i, rfl⟩ := Nat.exists_eq_add_of_le low
  have start : nvAddress b 0 0 + i = b.val * 2048 + i := by simp [nvAddress]
  rw [← start]
  by_cases image : i < 2016
  · rw [withImage_image wf b g length i image, nvAddress_split, nvAddress_from b (i / 32) (i % 32),
      nvReadList_get (pages (i / 32) (by omega)) (by omega), imagePage_get _ _ _ (by omega), Nat.div_add_mod,
      List.getD_eq_getElem _ _ (by rwa [imageBytes_length length])]
  · obtain ⟨j, rfl⟩ := Nat.exists_eq_add_of_le (not_lt.1 image)
    have place : nvAddress b 0 0 + (2016 + j) = nvAddress b 63 j := by simp only [nvAddress]; omega
    rw [place]
    by_cases eight : j < 8
    · rw [withImage_marker wf b cat g j eight]
      by_cases four : j < 4
      · rw [nvAddress_from b 63 j, nvReadList_get gen four,
          List.getD_eq_getElem _ _ (by simpa [wordBytes] using four), List.getElem_append_left]
      · obtain ⟨k, rfl⟩ := Nat.exists_eq_add_of_le (not_lt.1 four)
        rw [nvAddress_add,
          nvReadList_get marker (show k < 4 by omega), List.getElem_append_right (by simp [wordBytes]),
          List.getD_eq_getElem _ _ (by simp [validMarker]; omega)]
        simp [wordBytes]
    · unfold withImage
      have image := imageBytes_length length g
      have eight : (wordBytes g ++ validMarker).length = 8 := rfl
      have apart := nvAddress_from b 63 j
      rw [nvRead_nvWriteList_outside _ _ _ (nvWriteList_wf _ _ _ wf) (.inr (by omega)), nvRead_nvWriteList_outside _ _ _ wf (.inr (by omega))]

end Sys2Proof.Machine

/-! Every step keeps the laws of the banks (O59). -/

namespace Sys2Proof.Safety

open Sys2Proof.Machine Sys2Proof.Claim

/-! ### Steps that leave the memory alone -/

theorem BanksSound.congr {s t : State} (h : BanksSound s) (cm : t.cm = s.cm) (catalogue : t.cu.catalogue = s.cu.catalogue)
    (dirty : t.cu.dirty = s.cu.dirty) (mode : t.mc.mode = s.mc.mode) : BanksSound t where
  canonical := by rw [NvCanonical, cm]; exact h.canonical
  catalogue := by rw [CatalogueSound, catalogue]; exact h.catalogue
  commit := by rw [CommitSound, cm, mode]; exact h.commit
  progress r runs := by
    have before := h.progress r (by rwa [cm] at runs)
    exact ⟨before.generation, by rw [cm]; exact before.higher, by rw [cm]; exact before.unmarked,
      by rw [cm, catalogue]; exact before.programmed, by rw [cm, catalogue]; exact before.image, by rw [cm]; exact before.marked⟩
  active := by rw [cm]; exact h.active
  newer := by rw [cm]; exact h.newer
  none := by rw [cm, mode]; exact h.none
  committed := by rw [CatalogueCommitted, cm, catalogue, dirty, mode]; exact h.committed
  clean := by rw [CleanInService, State.inService, cm, dirty, mode]; exact h.clean

/-- The mode may move once BOOT is over, no commit runs and the working catalogue is the committed one. -/
theorem BanksSound.moved {s t : State} (h : BanksSound s) (cm : t.cm = s.cm) (cu : t.cu = s.cu) (idle : s.cm.commit = Option.none)
    (clean : s.cu.dirty = false) (run : s.mc.mode ≠ .boot) : BanksSound t where
  canonical := by rw [NvCanonical, cm]; exact h.canonical
  catalogue := by rw [CatalogueSound, cu]; exact h.catalogue
  commit := ⟨by rw [cm]; exact h.commit.1, fun r runs => by rw [cm, idle] at runs; cases runs⟩
  progress r runs := by rw [cm, idle] at runs; cases runs
  active := by rw [cm]; exact h.active
  newer := by rw [cm]; exact h.newer
  none := by rw [cm]; exact fun _ => h.none run
  committed := by rw [CatalogueCommitted, cm, cu]; exact fun _ => h.committed run
  clean := by rw [CleanInService, cm, cu]; exact fun _ => ⟨clean, idle⟩

theorem BanksSound.edited {s t : State} (h : BanksSound s) (mode : s.mc.mode = .config) (idle : s.cm.commit = Option.none) (mc : t.mc = s.mc)
    (cm : t.cm = s.cm) (valid : t.cu.catalogue.valid = true)
    (committed : t.cu.dirty = false → ∃ b g, s.cm.active = some (b, g) ∧ classifyBank s.cm.nv b = .valid g t.cu.catalogue) :
    BanksSound t where
  canonical := by rw [NvCanonical, cm]; exact h.canonical
  catalogue := valid
  commit := by rw [CommitSound, cm, mc]; exact h.commit
  progress r runs := by rw [cm, idle] at runs; cases runs
  active := by rw [cm]; exact h.active
  newer := by rw [cm]; exact h.newer
  none := by rw [cm, mc]; exact h.none
  committed _ := by rw [cm]; exact committed
  clean served := by simp [State.inService, mc, mode] at served

theorem BanksSound.catalogueEffect {s t : State} (h : BanksSound s) (effect : CatalogueEffect s t) : BanksSound t := by
  cases effect with
  | zone mode idle valid z => exact h.edited mode idle rfl rfl (valid_setZone h.catalogue z valid) fun clean => absurd clean (by simp)
  | @client c r mode idle valid own =>
    exact h.edited mode idle rfl rfl (valid_setClient h.catalogue c valid (addressTaken_eq_false own)) fun clean =>
      absurd clean (by simp [State.replaceCatalogue])
  | parameters mode idle valid =>
    obtain ⟨zones, clients, -, distinct⟩ := (valid_iff _).1 h.catalogue
    exact h.edited mode idle rfl rfl ((valid_iff _).2 ⟨zones, clients, valid, distinct⟩) fun clean => absurd clean (by simp)
  | clear mode idle =>
    exact h.edited mode idle rfl rfl emptyCatalogue_valid fun clean => absurd clean (by simp [State.replaceCatalogue])
  | @revert b g g' cat mode idle active bank =>
    obtain ⟨cat', found⟩ := h.active b g active
    obtain ⟨rfl, rfl⟩ := BankCondition.valid.inj (found.symm.trans bank)
    exact h.edited mode idle rfl rfl (valid_of_parse (classifyBank_eq_valid.1 bank).2.2.2.2.2) fun _ => ⟨b, g, active, bank⟩
  | freeze => exact h.congr rfl rfl rfl rfl

/-! ### Resets and the load -/

theorem nvWf_stopOperation {s : State} (wf : nvWf s.cm.nv = true) : nvWf s.stopOperation.cm.nv = true := by
  cases runs : s.cm.commit with
  | none => simpa only [State.stopOperation, runs] using wf
  | some r => exact (stopOperation_written wf runs).2

/-- In BOOT nothing is claimed of the banks but the canonical form. -/
theorem BanksSound.of_boot {s : State} (canonical : NvCanonical s) (mode : s.mc.mode = .boot) (valid : s.cu.catalogue.valid = true)
    (active : s.cm.active = Option.none) (idle : s.cm.commit = Option.none) (state : s.cm.commitState ≠ .running) : BanksSound s where
  canonical := canonical
  catalogue := valid
  commit := ⟨by simp [idle, state], fun r runs => by rw [idle] at runs; cases runs⟩
  progress r runs := by rw [idle] at runs; cases runs
  active b g is := by rw [active] at is; cases is
  newer b g is := by rw [active] at is; cases is
  none run := absurd mode run
  committed run := absurd mode run
  clean served := by simp [State.inService, mode] at served

theorem BanksSound.reset {s : State} (h : BanksSound s) (cause : ResetCause) (choice : StartChoice) (freeze : Bool) :
    BanksSound (s.takeReset cause choice freeze) :=
  .of_boot (nvWf_stopOperation h.canonical) rfl emptyCatalogue_valid rfl rfl CommitState.noConfusion

/-- What the load chooses (R162): the VALID bank of the higher generation, bank 0 of two with the same, and none when none is VALID. -/
inductive Chosen (nv : List Host.Cell) : Option (Bank × Word × Catalogue) → Prop
  | bank (b : Bank) (g : Word) (cat : Catalogue) (valid : classifyBank nv b = .valid g cat)
      (newer : ∀ (d : Bank) (g' : Word) (cat' : Catalogue), d ≠ b → classifyBank nv d = .valid g' cat' →
        g'.toNat < g.toNat ∨ (g' = g ∧ b = 0)) : Chosen nv (some (b, g, cat))
  | none (invalid : ∀ (d : Bank) (g : Word) (cat : Catalogue), classifyBank nv d ≠ .valid g cat) : Chosen nv none

theorem bank_cases : ∀ b : Bank, b = 0 ∨ b = 1 := by decide

theorem chosen_chooseBank (nv : List Host.Cell) : Chosen nv (chooseBank (classifyBank nv 0) (classifyBank nv 1)) := by
  have only {b d : Bank} (h : ∀ g cat, classifyBank nv d ≠ .valid g cat) (others : ∀ e, e ≠ b → e = d) (g : Word) :
      ∀ (e : Bank) (g' : Word) (cat' : Catalogue), e ≠ b → classifyBank nv e = .valid g' cat' → g'.toNat < g.toNat ∨ (g' = g ∧ b = 0) :=
    fun e g' cat' away valid => absurd valid (others e away ▸ h g' cat')
  have notZero : ∀ e : Bank, e ≠ 0 → e = 1 := by decide
  have notOne : ∀ e : Bank, e ≠ 1 → e = 0 := by decide
  by_cases first : ∃ g cat, classifyBank nv 0 = .valid g cat
  · obtain ⟨g0, c0, h0⟩ := first
    by_cases second : ∃ g cat, classifyBank nv 1 = .valid g cat
    · obtain ⟨g1, c1, h1⟩ := second
      rw [h0, h1, chooseBank_both]
      split
      · next less =>
        refine .bank 1 g1 c1 h1 fun d g' cat' away valid => .inl ?_
        obtain ⟨rfl, -⟩ := BankCondition.valid.inj ((notOne d away ▸ h0).symm.trans valid)
        exact less
      · next more =>
        refine .bank 0 g0 c0 h0 fun d g' cat' away valid => ?_
        obtain ⟨rfl, -⟩ := BankCondition.valid.inj ((notZero d away ▸ h1).symm.trans valid)
        by_cases same : g1.toNat = g0.toNat
        · exact .inr ⟨BitVec.eq_of_toNat_eq same, rfl⟩
        · exact .inl (by omega)
    · simp only [not_exists] at second
      rw [h0, chooseBank_first second]
      exact .bank 0 g0 c0 h0 (only second notZero g0)
  · simp only [not_exists] at first
    by_cases second : ∃ g cat, classifyBank nv 1 = .valid g cat
    · obtain ⟨g1, c1, h1⟩ := second
      rw [h1, chooseBank_second first]
      exact .bank 1 g1 c1 h1 (only first notOne g1)
    · simp only [not_exists] at second
      rw [chooseBank_none first second]
      refine .none fun d => ?_
      obtain rfl | rfl := bank_cases d
      · exact first
      · exact second

theorem commit_none_of_boot {s : State} (h : CommitSound s) (mode : s.mc.mode = .boot) : s.cm.commit = Option.none := by
  cases runs : s.cm.commit with
  | none => rfl
  | some r => exact absurd (mode.symm.trans (h.2 r runs).1) (by decide)

theorem endBoot_served {s : State} {found : Bool} (h : (s.endBoot found).inService = true) : found = true := by
  by_contra not
  rw [endBoot_of_config found (fun both => not both.1)] at h
  exact absurd h (by simp [State.inService])

theorem BanksSound.load {s : State} (h : BanksSound s) (mode : s.mc.mode = .boot) : BanksSound s.loadCatalogue := by
  have idle := commit_none_of_boot h.commit mode
  have state : s.cm.commitState ≠ .running := fun running => by
    have runs := h.commit.1.2 running
    rw [idle] at runs
    exact absurd runs (by simp)
  have found := chosen_chooseBank s.cm.nv
  have ended := endBoot_ended s.chosen (chooseBank (classifyBank s.cm.nv 0) (classifyBank s.cm.nv 1)).isSome
  have served := @endBoot_served s.chosen (chooseBank (classifyBank s.cm.nv 0) (classifyBank s.cm.nv 1)).isSome
  rw [loadCatalogue_eq]
  have cm : s.chosen.cm = { s.cm with active := chosenBank (chooseBank (classifyBank s.cm.nv 0) (classifyBank s.cm.nv 1)) } := rfl
  have catalogue : s.chosen.cu.catalogue = chosenCatalogue (chooseBank (classifyBank s.cm.nv 0) (classifyBank s.cm.nv 1)) := rfl
  have dirty : s.chosen.cu.dirty = (chooseBank (classifyBank s.cm.nv 0) (classifyBank s.cm.nv 1)).isNone := rfl
  generalize s.chosen.endBoot (chooseBank (classifyBank s.cm.nv 0) (classifyBank s.cm.nv 1)).isSome = t at ended served ⊢
  rw [← ended.cm] at cm
  rw [← ended.cu] at catalogue dirty
  generalize chooseBank (classifyBank s.cm.nv 0) (classifyBank s.cm.nv 1) = choice at found served cm catalogue dirty
  have nv : t.cm.nv = s.cm.nv := by rw [cm]
  have active : t.cm.active = chosenBank choice := by rw [cm]
  have commit : t.cm.commit = Option.none := by rw [cm]; exact idle
  have none (r : CommitRecord) (runs : t.cm.commit = some r) : False := by rw [commit] at runs; cases runs
  refine ⟨by rw [NvCanonical, nv]; exact h.canonical, ?_, ⟨?_, fun r runs => (none r runs).elim⟩, fun r runs => (none r runs).elim,
    ?_, ?_, ?_, ?_, fun inService => ⟨?_, commit⟩⟩
  · rw [CatalogueSound, catalogue]
    cases found with
    | bank b g cat valid newer => exact valid_of_parse (classifyBank_eq_valid.1 valid).2.2.2.2.2
    | none => exact emptyCatalogue_valid
  · rw [commit, cm]
    exact iff_of_false (by simp) state
  · rw [active, nv]
    cases found with
    | bank b g cat valid newer =>
      intro b' g' is
      obtain ⟨rfl, rfl⟩ := Prod.mk.inj (Option.some.inj is)
      exact ⟨cat, valid⟩
    | none => exact fun b g is => absurd is (by simp [chosenBank])
  · rw [active, nv]
    cases found with
    | bank b g cat valid newer =>
      intro b' g' is
      obtain ⟨rfl, rfl⟩ := Prod.mk.inj (Option.some.inj is)
      exact newer
    | none => exact fun b g is => absurd is (by simp [chosenBank])
  · rw [active, nv]
    cases found with
    | bank b g cat valid newer => exact fun _ is => absurd is (by simp [chosenBank])
    | none invalid => exact fun _ _ => invalid
  · rw [CatalogueCommitted, active, nv, catalogue, dirty]
    cases found with
    | bank b g cat valid newer => exact fun _ _ => ⟨b, g, rfl, valid⟩
    | none => exact fun _ clean => absurd clean (by simp)
  · rw [dirty]
    have some := served inService
    cases choice with
    | none => exact absurd some (by simp)
    | some x => rfl

/-! ### The commit -/

/-- A bank that is not active has been written and left without its marker. -/
theorem BanksSound.written {s t : State} {d : Bank} (h : BanksSound s) (w : WritesIn s t d)
    (away : ∀ b g, s.cm.active = some (b, g) → b ≠ d) (unmarked : markerBytes t.cm.nv d ≠ validMarker) (mode : s.mc.mode = .config)
    (mc : t.mc = s.mc) (cu : t.cu = s.cu) (active : t.cm.active = s.cm.active) (commit : CommitSound t)
    (progress : ∀ r, t.cm.commit = some r → CommitProgress t r) : BanksSound t := by
  have others {b : Bank} (other : b ≠ d) : classifyBank t.cm.nv b = classifyBank s.cm.nv b :=
    classify_of_pages fun p hp => w.other other hp
  have target : classifyBank t.cm.nv d = .unmarked := classifyBank_eq_unmarked.2 unmarked
  exact
    { canonical := w.canonical
      catalogue := by rw [CatalogueSound, cu]; exact h.catalogue
      commit := commit
      progress := progress
      active := fun b g is => by
        rw [active] at is
        rw [others (away b g is)]
        exact h.active b g is
      newer := fun b g is e g' cat ne valid => by
        rw [active] at is
        have other : e ≠ d := fun here => by
          rw [here, target] at valid
          cases valid
        rw [others other] at valid
        exact h.newer b g is e g' cat ne valid
      none := fun run is e g cat valid => by
        rw [active] at is
        rw [mc] at run
        have other : e ≠ d := fun here => by
          rw [here, target] at valid
          cases valid
        rw [others other] at valid
        exact h.none run is e g cat valid
      committed := fun run clean => by
        rw [mc] at run
        rw [cu] at clean
        obtain ⟨b, g, is, valid⟩ := h.committed run clean
        exact ⟨b, g, active.trans is, by rw [others (away b g is), cu]; exact valid⟩
      clean := fun served => by simp [State.inService, mc, mode] at served }

/-- The target of a running commit is not the active bank. -/
theorem BanksSound.away {s : State} {r : CommitRecord} (h : BanksSound s) (runs : s.cm.commit = some r) (b : Bank) (g : Word)
    (is : s.cm.active = some (b, g)) : b ≠ r.target := ((h.commit.2 r runs).2 b g is).symm

theorem BanksSound.running {s : State} {r : CommitRecord} (h : BanksSound s) (runs : s.cm.commit = some r) :
    s.cm.commitState = .running := h.commit.1.1 (by rw [runs]; rfl)

theorem BanksSound.goesOn {s : State} {r : CommitRecord} (h : BanksSound s) (runs : s.cm.commit = some r) {nv : List Host.Cell}
    (w : WritesIn s (s.setNv nv) r.target) (unmarked : markerBytes nv r.target ≠ validMarker) {phase : CommitPhase} {page : Fin 64}
    (programmed : phase = .program → page.val ≤ 62 ∧
      ∀ p < page.val, pageBytes nv r.target p = imagePage s.cu.catalogue r.generation p)
    (image : phase = .markGeneration ∨ phase = .markMarker → page = 63 ∧
      ∀ p < 63, pageBytes nv r.target p = imagePage s.cu.catalogue r.generation p)
    (marked : phase = .markMarker → nvReadList (nvAddress r.target 63 0) 4 nv = wordBytes r.generation) :
    BanksSound ((s.setNv nv).continueCommit r phase page) := by
  have before := h.progress r runs
  have mode := (h.commit.2 r runs).1
  refine h.written (d := r.target) ⟨w.canonical, w.page⟩ (h.away runs) unmarked mode rfl rfl rfl ⟨?_, fun r' hr => ?_⟩ fun r' hr => ?_
  · exact iff_of_true rfl (h.running runs)
  · obtain rfl := Option.some.inj hr
    exact ⟨mode, (h.commit.2 r runs).2⟩
  · obtain rfl := Option.some.inj hr
    exact ⟨before.generation, before.higher, unmarked, programmed, image, marked⟩

theorem BanksSound.fails {s t : State} {r : CommitRecord} (h : BanksSound s) (runs : s.cm.commit = some r)
    (w : WritesIn s t r.target) (mc : t.mc = s.mc) (cu : t.cu = s.cu) (active : t.cm.active = s.cm.active)
    (unmarked : markerBytes t.cm.nv r.target ≠ validMarker) (cause : CommitCause) : BanksSound (t.failCommit r cause) := by
  have cm : (t.failCommit r cause).cm = { t.cm with commit := Option.none, commitState := .failed } := by
    simp only [State.failCommit, respond_cm, postAttention_cm]
  have same := SameCore.respond { t.postAttention (.nvFault r.target) with cm := { t.cm with commit := Option.none, commitState := .failed } }
    .nvFailed [numByte r.target.val, commitCauseByte cause, numByte r.page.val]
  have commit : (t.failCommit r cause).cm.commit = Option.none := by rw [cm]
  refine h.written (d := r.target) ⟨by rw [cm]; exact w.canonical, by rw [cm]; exact w.page⟩ (h.away runs) (by rw [cm]; exact unmarked)
    (h.commit.2 r runs).1 (same.mc.trans mc) (same.cu.trans cu) (by rw [cm]; exact active) ⟨?_, fun r' hr => ?_⟩ fun r' hr => ?_
  · rw [cm]
    exact iff_of_false (by simp) CommitState.noConfusion
  · rw [commit] at hr; cases hr
  · rw [commit] at hr; cases hr

theorem BanksSound.succeeds {s : State} {r : CommitRecord} (h : BanksSound s) (runs : s.cm.commit = some r) {nv : List Host.Cell}
    (w : WritesIn s (s.setNv nv) r.target) (pages : ∀ p < 63, pageBytes nv r.target p = imagePage s.cu.catalogue r.generation p)
    (generation : nvReadList (nvAddress r.target 63 0) 4 nv = wordBytes r.generation) (marker : markerBytes nv r.target = validMarker) :
    BanksSound ((s.setNv nv).endCommit r) := by
  have before := h.progress r runs
  obtain ⟨mode, -⟩ := h.commit.2 r runs
  have cm : ((s.setNv nv).endCommit r).cm =
      { s.cm with nv := nv, active := some (r.target, r.generation), commit := Option.none, commitState := .succeeded } := by
    simp only [State.endCommit, respond_cm, setNv_cm]
  have same := SameCore.respond { s.setNv nv with
      cm := { s.cm with nv := nv, active := some (r.target, r.generation), commit := Option.none, commitState := .succeeded }
      cu := { s.cu with dirty := false } } .doneOk (numByte r.target.val :: wordBytes r.generation)
  have mc : ((s.setNv nv).endCommit r).mc = s.mc := same.mc
  have catalogue : ((s.setNv nv).endCommit r).cu.catalogue = s.cu.catalogue := by
    rw [show ((s.setNv nv).endCommit r).cu = _ from same.cu]
  have valid : classifyBank nv r.target = .valid r.generation s.cu.catalogue :=
    classify_of_image w.canonical h.catalogue before.generation.1 before.generation.2 pages generation marker
  have others {b : Bank} (other : b ≠ r.target) : classifyBank nv b = classifyBank s.cm.nv b :=
    classify_of_pages fun p hp => w.other other hp
  have is {b : Bank} {g : Word} (h : some (r.target, r.generation) = some (b, g)) : b = r.target ∧ g = r.generation := by
    obtain ⟨rfl, rfl⟩ := Prod.mk.inj (Option.some.inj h)
    exact ⟨rfl, rfl⟩
  have run : s.mc.mode ≠ .boot := fun boot => absurd (boot.symm.trans mode) (by decide)
  refine ⟨?_, by rw [CatalogueSound, catalogue]; exact h.catalogue, ?_, ?_, ?_, ?_, ?_, ?_, ?_⟩
  · rw [NvCanonical, cm]
    exact w.canonical
  · rw [CommitSound, cm]
    exact ⟨iff_of_false (by simp) CommitState.noConfusion, fun r' hr => by cases hr⟩
  · rw [cm]
    exact fun r' hr => by cases hr
  · rw [cm]
    intro b g at'
    obtain ⟨rfl, rfl⟩ := is at'
    exact ⟨_, valid⟩
  · rw [cm]
    intro b g at' d g' cat away found
    obtain ⟨rfl, rfl⟩ := is at'
    rw [others away] at found
    left
    cases active : s.cm.active with
    | none => exact absurd found (h.none run active d g' cat)
    | some x =>
      obtain ⟨b, g⟩ := x
      have both : ∀ a b c : Bank, a ≠ c → b ≠ c → a = b := by decide
      obtain rfl := both d b r.target away (h.away runs b g active)
      obtain ⟨cat', old⟩ := h.active d g active
      obtain ⟨rfl, -⟩ := BankCondition.valid.inj (old.symm.trans found)
      exact before.higher d g active
  · rw [cm]
    exact fun _ none => absurd none (by simp)
  · rw [CatalogueCommitted, cm, catalogue]
    exact fun _ _ => ⟨_, _, rfl, valid⟩
  · rw [CleanInService, State.inService, mc, mode]
    exact fun served => absurd served (by simp)

/-! ### Each operation of a commit -/

theorem markerBytes_kept {m m' : List Host.Cell} {d : Bank} (h : PageKept m m' d 63) (unmarked : markerBytes m d ≠ validMarker) :
    markerBytes m' d ≠ validMarker := by rwa [markerBytes_congr h]

theorem markerBytes_of_written {m m' : List Host.Cell} {d : Bank} {bytes : List Byte} (w : Written m m' (nvAddress d 63 0) bytes)
    (long : 8 ≤ bytes.length) : markerBytes m' d = (bytes.drop 4).take 4 := by
  rw [markerBytes, nvAddress_from]
  exact written_read w (by omega)

theorem BanksSound.begin {s : State} (h : BanksSound s) (mode : s.mc.mode = .config) (idle : s.cm.commit = Option.none)
    (more : generationSpent s.cm.active = false) : BanksSound s.beginCommit := by
  have w := (CommitEffect.begin mode idle more).writesIn h.canonical
  have bank : commitBank s = (commitTarget s.cm.active).1 := by rw [commitBank, idle]
  have nv := beginCommit_nv s
  have written := nvWriteList_written h.canonical (nvAddress (commitTarget s.cm.active).1 63 0) (List.replicate 32 erasedByte)
  rw [← nv] at written
  have unmarked : markerBytes s.beginCommit.cm.nv (commitTarget s.cm.active).1 ≠ validMarker := by
    rw [markerBytes_of_written written (by simp)]
    decide
  have active : s.beginCommit.cm.active = s.cm.active := by simp only [State.beginCommit]
  have state : s.beginCommit.cm.commitState = .running := by simp only [State.beginCommit]
  have commit : s.beginCommit.cm.commit = some
      { target := (commitTarget s.cm.active).1, generation := (commitTarget s.cm.active).2, phase := .erase, page := 63 } := by
    simp only [State.beginCommit]
  have mc : s.beginCommit.mc = s.mc := by simp only [State.beginCommit]
  have cu : s.beginCommit.cu = s.cu := by simp only [State.beginCommit]
  have away : ∀ b g, s.cm.active = some (b, g) → b ≠ (commitTarget s.cm.active).1 := fun b g is => bank ▸ commitBank_ne h.commit is
  rw [bank] at w
  refine h.written w away unmarked mode mc cu active ⟨?_, fun r hr => ?_⟩ fun r hr => ?_
  · rw [commit, state]
    exact iff_of_true rfl rfl
  · rw [commit] at hr
    obtain rfl := Option.some.inj hr
    exact ⟨by rw [mc]; exact mode, fun b g is => (away b g (active ▸ is)).symm⟩
  · rw [commit] at hr
    obtain rfl := Option.some.inj hr
    have generation : (commitTarget s.cm.active).2 ≠ 0#32 ∧ (commitTarget s.cm.active).2 ≠ 0xFFFFFFFF#32 ∧
        ∀ b g, s.cm.active = some (b, g) → g.toNat < (commitTarget s.cm.active).2.toNat := by
      cases is : s.cm.active with
      | none => exact ⟨by decide, by decide, fun b g no => absurd no (by simp)⟩
      | some x =>
        obtain ⟨b, g⟩ := x
        obtain ⟨cat, valid⟩ := h.active b g is
        obtain ⟨-, -, low, high, -⟩ := classifyBank_eq_valid.1 valid
        have last : g ≠ 0xFFFFFFFE#32 := by simpa [generationSpent, is] using more
        refine ⟨?_, ?_, fun b' g' same => ?_⟩
        · simp only [commitTarget]
          bv_omega
        · simp only [commitTarget]
          bv_omega
        · obtain ⟨rfl, rfl⟩ := Prod.mk.inj (Option.some.inj same)
          simp only [commitTarget]
          bv_omega
    obtain ⟨low, high, newer⟩ := generation
    exact ⟨⟨low, high⟩, by rw [active]; exact newer, unmarked, fun no => absurd no CommitPhase.noConfusion,
      fun no => absurd no (by simp), fun no => absurd no CommitPhase.noConfusion⟩

theorem BanksSound.erased {s : State} {r : CommitRecord} (h : BanksSound s) (runs : s.cm.commit = some r) (readBack : List Byte) :
    BanksSound (s.eraseDone r readBack) := by
  have before := h.progress r runs
  have length := erasedPage_length r.page readBack
  have w : WritesIn s (s.setNv (nvWriteList (nvAddress r.target r.page.val 0) (erasedPage r.page readBack) s.cm.nv)) r.target :=
    writesIn_of_write h.canonical r.page.isLt (by rw [length]) rfl
  have written := nvWriteList_written h.canonical (nvAddress r.target r.page.val 0) (erasedPage r.page readBack)
  have unmarked : markerBytes (nvWriteList (nvAddress r.target r.page.val 0) (erasedPage r.page readBack) s.cm.nv) r.target ≠
      validMarker := by
    by_cases last : r.page = 63
    · have number : r.page.val = 63 := congrArg Fin.val last
      rw [number] at written ⊢
      rw [markerBytes_of_written written (by omega), erasedPage, if_pos last]
      exact withoutMarker_marker (fullPage_length readBack)
    · refine markerBytes_kept (written_page written (by omega) r.page.isLt (by omega) (.inr fun same => last ?_)) before.unmarked
      exact Fin.ext same.symm
  simp only [State.eraseDone]
  split_ifs with read marker last
  · exact h.goesOn runs w unmarked (fun no => absurd no CommitPhase.noConfusion) (fun no => absurd no (by simp))
      fun no => absurd no CommitPhase.noConfusion
  · exact h.goesOn runs w unmarked (fun _ => ⟨by decide, fun p hp => absurd hp (Nat.not_lt_zero p)⟩) (fun no => absurd no (by simp))
      fun no => absurd no CommitPhase.noConfusion
  · exact h.goesOn runs w unmarked (fun no => absurd no CommitPhase.noConfusion) (fun no => absurd no (by simp))
      fun no => absurd no CommitPhase.noConfusion
  · exact h.fails runs w rfl rfl rfl unmarked _

theorem BanksSound.programmed {s : State} {r : CommitRecord} (h : BanksSound s) (runs : s.cm.commit = some r)
    (phase : r.phase = .program) (readBack : List Byte) : BanksSound (s.programDone r readBack) := by
  have before := h.progress r runs
  obtain ⟨small, pages⟩ := before.programmed phase
  have w : WritesIn s (s.setNv (nvProgramList (nvAddress r.target r.page.val 0) (fullPage readBack) s.cm.nv)) r.target :=
    writesIn_of_program h.canonical r.page.isLt (by rw [fullPage_length]) rfl
  have written := nvProgramList_written h.canonical (nvAddress r.target r.page.val 0) (fullPage readBack)
  have length := programmed_length (nvAddress r.target r.page.val 0) (fullPage readBack) s.cm.nv
  rw [fullPage_length] at length
  have kept {p : Nat} (hp : p < 64) (other : p ≠ r.page.val) := written_page (d := r.target) written (by omega) r.page.isLt hp (.inr other)
  have unmarked := markerBytes_kept (kept (show 63 < 64 by omega) (by omega)) before.unmarked
  simp only [State.programDone]
  generalize nvProgramList (nvAddress r.target r.page.val 0) (fullPage readBack) s.cm.nv = nv at *
  split_ifs with read last
  · refine h.goesOn runs w unmarked (fun no => absurd no CommitPhase.noConfusion) (fun _ => ⟨rfl, fun p hp => ?_⟩)
      fun no => absurd no CommitPhase.noConfusion
    by_cases here : p = r.page.val
    · rw [here]
      exact read
    · rw [pageBytes_congr (kept (by omega) here)]
      refine pages p ?_
      rw [last] at here ⊢
      exact Nat.lt_of_le_of_ne (Nat.le_of_lt_succ hp) here
  · have next : (r.page + 1).val = r.page.val + 1 := Fin.val_add_one_of_lt (Fin.lt_def.2 (by rw [Fin.val_last]; omega))
    refine h.goesOn runs w unmarked (fun _ => ⟨?_, fun p hp => ?_⟩) (fun no => absurd no (by simp)) fun no => absurd no CommitPhase.noConfusion
    · have : r.page.val ≠ 62 := fun same => last (Fin.ext same)
      omega
    · by_cases here : p = r.page.val
      · rw [here]
        exact read
      · rw [pageBytes_congr (kept (by omega) here)]
        exact pages p (by omega)
  · exact h.fails runs w rfl rfl rfl unmarked _

theorem BanksSound.markedGeneration {s : State} {r : CommitRecord} (h : BanksSound s) (runs : s.cm.commit = some r)
    (phase : r.phase = .markGeneration) (readBack : List Byte) : BanksSound (s.generationDone r readBack) := by
  have before := h.progress r runs
  obtain ⟨-, pages⟩ := before.image (.inl phase)
  have four : ((fullPage readBack).take 4).length = 4 := by simp [fullPage_length]
  have w : WritesIn s (s.setNv (nvProgramList (nvAddress r.target 63 0) ((fullPage readBack).take 4) s.cm.nv)) r.target :=
    writesIn_of_program h.canonical (by omega) (by omega) rfl
  have written := nvProgramList_written h.canonical (nvAddress r.target 63 0) ((fullPage readBack).take 4)
  have length := programmed_length (nvAddress r.target 63 0) ((fullPage readBack).take 4) s.cm.nv
  have kept {p : Nat} (hp : p < 63) := written_page (d := r.target) written (by omega) (show 63 < 64 by omega) (show p < 64 by omega)
    (.inr (by omega))
  have marker : markerBytes (nvProgramList (nvAddress r.target 63 0) ((fullPage readBack).take 4) s.cm.nv) r.target =
      markerBytes s.cm.nv r.target := by
    refine nvReadList_congr fun i hi => ?_
    rw [written, if_neg]
    rw [nvAddress_from _ _ 4]
    omega
  have unmarked := marker ▸ before.unmarked
  simp only [State.generationDone]
  generalize nvProgramList (nvAddress r.target 63 0) ((fullPage readBack).take 4) s.cm.nv = nv at *
  split_ifs with read
  · exact h.goesOn runs w unmarked (fun no => absurd no CommitPhase.noConfusion)
      (fun _ => ⟨rfl, fun p hp => (pageBytes_congr (kept hp)).trans (pages p hp)⟩) fun _ => read
  · exact h.fails runs w rfl rfl rfl unmarked _

theorem BanksSound.markedMarker {s : State} {r : CommitRecord} (h : BanksSound s) (runs : s.cm.commit = some r)
    (phase : r.phase = .markMarker) (readBack : List Byte) : BanksSound (s.markerDone r readBack) := by
  have before := h.progress r runs
  obtain ⟨-, pages⟩ := before.image (.inr phase)
  have four : ((fullPage readBack).take 4).length = 4 := by simp [fullPage_length]
  have w : WritesIn s (s.setNv (nvProgramList (nvAddress r.target 63 4) ((fullPage readBack).take 4) s.cm.nv)) r.target :=
    writesIn_of_program h.canonical (by omega) (by omega) rfl
  have written := nvProgramList_written h.canonical (nvAddress r.target 63 4) ((fullPage readBack).take 4)
  have length := programmed_length (nvAddress r.target 63 4) ((fullPage readBack).take 4) s.cm.nv
  have kept {p : Nat} (hp : p < 63) := written_page (d := r.target) written (by omega) (show 63 < 64 by omega) (show p < 64 by omega)
    (.inr (by omega))
  have generation : nvReadList (nvAddress r.target 63 0) 4 (nvProgramList (nvAddress r.target 63 4) ((fullPage readBack).take 4) s.cm.nv) =
      wordBytes r.generation := by
    refine (nvReadList_congr fun i hi => ?_).trans (before.marked phase)
    rw [written, if_neg]
    rw [nvAddress_from _ _ 4]
    omega
  simp only [State.markerDone]
  generalize nvProgramList (nvAddress r.target 63 4) ((fullPage readBack).take 4) s.cm.nv = nv at *
  split_ifs with read
  · exact h.succeeds runs w (fun p hp => (pageBytes_congr (kept hp)).trans (pages p hp)) generation read
  · exact h.fails runs w rfl rfl rfl read _

/-- An operation that is stopped leaves the target without its marker (R166, R169, R170). -/
theorem CommitProgress.stopped {s : State} {r : CommitRecord} (h : CommitProgress s r) (wf : nvWf s.cm.nv = true)
    (runs : s.cm.commit = some r) : markerBytes s.stopOperation.cm.nv r.target ≠ validMarker := by
  obtain ⟨written, -⟩ := stopOperation_written wf runs
  have short := stoppedPage_length_le s.cm.nv s.cu.catalogue r s.freeCount
  have old := pageBytes_length s.cm.nv r.target r.page.val
  by_cases last : r.page.val = 63
  · rw [last] at written old
    have other : r.phase ≠ .program := fun phase => by
      have := (h.programmed phase).1
      omega
    cases phase : r.phase with
    | erase =>
      have page : stoppedPage s.cm.nv s.cu.catalogue r s.freeCount = withoutMarker (freeBytes s.freeCount 32) := by
        simp only [stoppedPage, phase, if_pos (Fin.ext last : r.page = 63)]
      rw [page] at written
      have length := withoutMarker_length (freeBytes_length s.freeCount 32)
      rw [markerBytes_of_written written (by omega)]
      exact withoutMarker_marker (freeBytes_length _ _)
    | program => exact absurd phase other
    | markGeneration =>
      have page : stoppedPage s.cm.nv s.cu.catalogue r s.freeCount =
          partlyProgrammed ((pageBytes s.cm.nv r.target 63).take 4) (wordBytes r.generation) (freeBytes s.freeCount 4) ++
            (pageBytes s.cm.nv r.target 63).drop 4 := by
        simp only [stoppedPage, phase, last]
      have front := partlyProgrammed_length (n := 4) (old := (pageBytes s.cm.nv r.target 63).take 4) (wanted := wordBytes r.generation)
        (by simp [old]) rfl (freeBytes_length s.freeCount 4)
      rw [page] at written
      rw [markerBytes_of_written written (by simp [front, old]), List.drop_left' front]
      have same : ((pageBytes s.cm.nv r.target 63).drop 4).take 4 = markerBytes s.cm.nv r.target := by
        refine (nvReadList_eq (by simp [old]) fun i hi => ?_).symm
        simp [pageBytes, nvReadList, nvAddress_from _ _ 4, Nat.add_assoc]
      rw [same]
      exact h.unmarked
    | markMarker =>
      have part := partlyProgrammed_length (n := 4) (old := ((pageBytes s.cm.nv r.target 63).drop 4).take 4) (wanted := validMarker)
        (by simp [old]) rfl (freeBytes_length s.freeCount 4)
      have length : ((pageBytes s.cm.nv r.target 63).take 4 ++
          partlyProgrammed (((pageBytes s.cm.nv r.target 63).drop 4).take 4) validMarker (freeBytes s.freeCount 4) ++
          (pageBytes s.cm.nv r.target 63).drop 8).length = 32 := by simp [part, old]
      have page : stoppedPage s.cm.nv s.cu.catalogue r s.freeCount = withoutMarker ((pageBytes s.cm.nv r.target 63).take 4 ++
          partlyProgrammed (((pageBytes s.cm.nv r.target 63).drop 4).take 4) validMarker (freeBytes s.freeCount 4) ++
          (pageBytes s.cm.nv r.target 63).drop 8) := by
        simp only [stoppedPage, phase, last]
      rw [page] at written
      rw [markerBytes_of_written written (by rw [withoutMarker_length length]; omega)]
      exact withoutMarker_marker length
  · exact markerBytes_kept (written_page written (by omega) r.page.isLt (by omega) (.inr (Ne.symm last))) h.unmarked

theorem BanksSound.stopped {s : State} {r : CommitRecord} (h : BanksSound s) (runs : s.cm.commit = some r) :
    BanksSound (s.stopOperation.failCommit r .nvwe) := by
  have w := writesIn_of_stop h.canonical runs
  have same : s.stopOperation.mc = s.mc ∧ s.stopOperation.cu = s.cu ∧ s.stopOperation.cm.active = s.cm.active := by
    simp only [State.stopOperation, runs, and_self]
  obtain ⟨mc, cu, active⟩ := same
  exact h.fails runs w mc cu active ((h.progress r runs).stopped h.canonical runs) _

theorem BanksSound.commitEffect {s t : State} (h : BanksSound s) (effect : CommitEffect s t) : BanksSound t := by
  cases effect with
  | begin mode idle more => exact h.begin mode idle more
  | erase runs _ readBack => exact h.erased runs readBack
  | program runs phase readBack => exact h.programmed runs phase readBack
  | generation runs phase readBack => exact h.markedGeneration runs phase readBack
  | marker runs phase readBack => exact h.markedMarker runs phase readBack
  | nvwe runs => exact h.stopped runs

/-! ### Every effect -/

theorem followReasons_cu (s : State) : s.followReasons.cu = s.cu := by
  obtain ⟨-, same⟩ | ⟨-, -, same⟩ | ⟨-, -, same⟩ := followReasons_cases s
  · rw [same]
  · rw [same, (requestScan_tables _).cu]
  · rw [same]

theorem setLine_cu (s : State) (line : Bool) : (s.setLine line).cu = s.cu := by
  cases served : s.inService with
  | false => rw [setLine_of_not_served served]
  | true => rw [setLine_of_served served, followReasons_cu]

theorem BanksSound.effect {i : Instr} {s t : State} (h : BanksSound s) (effect : Effect i s t) : BanksSound t := by
  cases effect with
  | nothing | tick | rstReleased => exact h.congr rfl rfl rfl rfl
  | tables _ table =>
    have same := table.control
    exact h.congr same.cm (by rw [same.cu]) (by rw [same.cu]) (by rw [same.mc])
  | memory _ memory => exact h.commitEffect memory
  | catalogue _ catalogue => exact h.catalogueEffect catalogue
  | reset => exact h.reset _ _ _
  | lineReset => exact (h.reset .line .auto false).congr rfl rfl rfl rfl
  | load mode rst => exact h.load mode
  | stopin _ line =>
    cases served : s.inService with
    | false =>
      rw [setLine_of_not_served served]
      exact h.congr rfl rfl rfl rfl
    | true =>
      obtain ⟨clean, idle⟩ := h.clean served
      refine h.moved (setLine_cm s line) (setLine_cu s line) idle clean fun boot => ?_
      rw [not_served_of_boot boot] at served
      cases served
  | start mode idle clean => exact h.moved rfl rfl idle clean (fun boot => absurd (boot.symm.trans mode) (by decide))
  | stop mode quiescent =>
    obtain ⟨clean, idle⟩ := h.clean (by simp [State.inService, mode])
    exact h.moved rfl rfl idle clean (fun boot => absurd (boot.symm.trans mode) (by decide))
  | command served present =>
    obtain ⟨clean, idle⟩ := h.clean served
    refine h.moved (followReasons_cm _) (followReasons_cu _) idle clean fun boot => ?_
    rw [not_served_of_boot boot] at served
    cases served

/-- Settles O59, effect by effect. -/
theorem stepKeepsBanksSound : Obligations.StepKeepsBanksSound := by
  unfold Obligations.StepKeepsBanksSound
  intro s t h step
  exact step_keeps (P := BanksSound) (fun same h => h.congr same.cm (by rw [same.cu]) (by rw [same.cu]) (by rw [same.mc]))
    (fun effect h => h.effect effect) (fun _ _ h => h.congr rfl rfl rfl rfl) step h

end Sys2Proof.Safety

/-! A commit from its begin to its end, a power failure, and the part right after reset (O49, O50, O52, O57). -/

namespace Sys2Proof.Machine

open Sys2Proof.Claim

/-! ### The begin of a commit (O49) -/

theorem beginCommit_eq (s : State) : s.beginCommit = { s with cm :=
    { nv := s.beginCommit.cm.nv, active := s.cm.active, commitState := .running
      commit := some { target := (commitTarget s.cm.active).1, generation := (commitTarget s.cm.active).2, phase := .erase, page := 63 } } } := by
  simp only [State.beginCommit]

theorem otherBank_of_ne : ∀ b target : Bank, target ≠ b → otherBank b = target := by decide

/-- Settles O49, from the checks of COMMIT in their order. -/
theorem commitBegins : Obligations.CommitBegins := by
  unfold Obligations.CommitBegins
  intro s ready mode thawed idle wf
  have run (nvwe : Bool) : exec (.commit nvwe) s = .next (decideCommit nvwe s.si.commandBlock (taken s)) := exec_of_ready rfl ready
  have config : ¬ (taken s).mc.mode ≠ .config := not_not.2 mode
  have free : ¬ (taken s).cu.freeze = true := Bool.eq_false_iff.1 thawed
  have still : ¬ (taken s).cm.commit.isSome = true := by
    rw [show (taken s).cm.commit = none from idle]
    exact Bool.false_ne_true
  refine ⟨?guarded, fun b spent => ?spent, fun target generation next => ?begins⟩
  case guarded =>
    rw [run, decideCommit, if_neg config, if_neg free, if_neg still, if_pos rfl, taken_respond]
    rfl
  case spent =>
    have last : generationSpent (taken s).cm.active = true := by
      rw [show (taken s).cm.active = _ from spent]
      rfl
    rw [run, decideCommit, if_neg config, if_neg free, if_neg still, if_neg (by simp), if_pos last, taken_respond]
    rfl
  case begins =>
    have bank : commitTarget s.cm.active = (target, generation) ∧ generationSpent s.cm.active = false := by
      obtain ⟨none, rfl, rfl⟩ | ⟨b, g, active, more, other, rfl⟩ := next
      · rw [none]
        exact ⟨rfl, rfl⟩
      · rw [active, commitTarget, otherBank_of_ne b target other]
        exact ⟨rfl, by simp [generationSpent, more]⟩
    obtain ⟨target', more⟩ := bank
    have notSpent : ¬ generationSpent (taken s).cm.active = true := Bool.eq_false_iff.1 more
    refine ⟨(taken s).beginCommit, ?_, ?_, ?_⟩
    · rw [run, decideCommit, if_neg config, if_neg free, if_neg still, if_neg (by simp), if_neg notSpent]
    · have whole := beginCommit_eq (taken s)
      rw [show commitTarget (taken s).cm.active = (target, generation) from target'] at whole
      exact whole
    · rw [beginCommit_nv, show commitTarget (taken s).cm.active = (target, generation) from target']
      exact nvWriteList_written wf _ _

/-! ### Its operations (O50) -/

theorem exec_erasePageDone {s : State} {r : CommitRecord} (runs : s.cm.commit = some r) (phase : r.phase = .erase) (readBack : List Byte) :
    exec (.commitErasePageDone readBack) s = .next (s.eraseDone r readBack) := by
  show execCommitErasePageDone readBack s = _
  simp only [execCommitErasePageDone, runs, phase, if_true]

theorem exec_programPageDone {s : State} {r : CommitRecord} (runs : s.cm.commit = some r) (phase : r.phase = .program)
    (readBack : List Byte) : exec (.commitProgramPageDone readBack) s = .next (s.programDone r readBack) := by
  show execCommitProgramPageDone readBack s = _
  simp only [execCommitProgramPageDone, runs, phase, if_true]

theorem exec_markGenerationDone {s : State} {r : CommitRecord} (runs : s.cm.commit = some r) (phase : r.phase = .markGeneration)
    (readBack : List Byte) : exec (.commitMarkGenerationDone readBack) s = .next (s.generationDone r readBack) := by
  show execCommitMarkGenerationDone readBack s = _
  simp only [execCommitMarkGenerationDone, runs, phase, if_true]

theorem exec_markMarkerDone {s : State} {r : CommitRecord} (runs : s.cm.commit = some r) (phase : r.phase = .markMarker)
    (readBack : List Byte) : exec (.commitMarkMarkerDone readBack) s = .next (s.markerDone r readBack) := by
  show execCommitMarkMarkerDone readBack s = _
  simp only [execCommitMarkMarkerDone, runs, phase, if_true]

theorem exec_nvweInactive_idle {s : State} (idle : s.cm.commit = none) : exec .nvweInactive s = .next s := by
  show execNvweInactive s = _
  simp only [execNvweInactive, idle]

theorem exec_nvweInactive {s : State} {r : CommitRecord} (runs : s.cm.commit = some r) :
    exec .nvweInactive s = .next (s.stopOperation.failCommit r .nvwe) := by
  show execNvweInactive s = _
  simp only [execNvweInactive, runs]

theorem failCommit_eq {s : State} {r : CommitRecord} {copy : Block} (mailbox : s.si.mailbox = .busy copy none) (cause : CommitCause) :
    s.failCommit r cause = commitFailed s r copy (commitCauseByte cause) s.cm.nv := by
  refine (respond_busy (copy := copy) (r := none) _ ?_ _ _).trans rfl
  exact mailbox

theorem endCommit_eq {s : State} {r : CommitRecord} {copy : Block} (mailbox : s.si.mailbox = .busy copy none) :
    s.endCommit r = commitSucceeded s r copy s.cm.nv := by
  rw [commitSucceeded, ← wordBytes_eq_be32]
  refine (respond_busy (copy := copy) (r := none) _ ?_ _ _).trans rfl
  exact mailbox

theorem fullPage_eq {readBack : List Byte} (h : readBack.length = 32) : fullPage readBack = readBack := by
  rw [fullPage, List.take_left' h]

theorem fullPage_take {readBack : List Byte} (h : readBack.length = 4) : (fullPage readBack).take 4 = readBack := by
  rw [fullPage, List.take_take, show min 4 32 = 4 from rfl, List.take_left' h]

theorem withoutMarker_eq {page : List Byte} (h : (page.drop 4).take 4 ≠ validMarker) : withoutMarker page = page := if_neg h

theorem all_erased_iff {page : List Byte} (h : page.length = 32) : page.all (fun b => b == erasedByte) = true ↔
    page = List.replicate 32 0xFF#8 := by
  rw [List.eq_replicate_iff, List.all_eq_true]
  simp only [beq_iff_eq, h, true_and]
  exact Iff.rfl

theorem imageLayout_eq (cat : Catalogue) (g : Word) : imageLayout cat g = imageBytes cat g := by
  have zones : zoneLayout = zoneRecordBytes := funext fun r => by simp only [zoneLayout, zoneRecordBytes, halfBytes_eq_be16]; rfl
  have clients : clientLayout = clientRecordBytes := funext fun r => by simp only [clientLayout, clientRecordBytes, halfBytes_eq_be16]; rfl
  have params : parameterLayout = parameterBytes := funext fun r => by simp only [parameterLayout, parameterBytes, halfBytes_eq_be16]; rfl
  simp only [imageLayout, imageBytes, catalogueBytes, zones, clients, params, imageCrcOf_eq, wordBytes_eq_be32]

/-- The page of an erase that is read back. -/
theorem eraseDone_eq {s : State} {r : CommitRecord} {readBack : List Byte} (length : readBack.length = 32)
    (unmarked : r.page = 63 → (readBack.drop 4).take 4 ≠ validMarker) : s.eraseDone r readBack =
      let s1 := s.setNv (nvWriteList (nvAddress r.target r.page.val 0) readBack s.cm.nv)
      if readBack = List.replicate 32 0xFF#8 then
        if r.page = 63 then s1.continueCommit r .erase 0
        else if r.page = 62 then s1.continueCommit r .program 0
        else s1.continueCommit r .erase (r.page + 1)
      else s1.failCommit r .erase := by
  have page : erasedPage r.page readBack = readBack := by
    rw [erasedPage, fullPage_eq length]
    split
    · next last => exact withoutMarker_eq (unmarked last)
    · rfl
  simp only [State.eraseDone, page, all_erased_iff length]

/-- The bytes of a programming of erased cells, and what is read back of them. -/
theorem programmed_erased {s : State} (wf : nvWf s.cm.nv = true) {a : Nat} {readBack : List Byte}
    (erased : nvReadList a readBack.length s.cm.nv = List.replicate readBack.length 0xFF#8) :
    Written s.cm.nv (nvProgramList a readBack s.cm.nv) a readBack ∧
      nvReadList a readBack.length (nvProgramList a readBack s.cm.nv) = readBack := by
  have written := nvProgramList_written wf a readBack
  rw [programmed_of_erased erased] at written
  have read := written_read written (k := 0) (n := readBack.length) (by omega)
  rw [Nat.add_zero, List.drop_zero, List.take_length] at read
  exact ⟨written, read⟩

/-- Settles O50, operation by operation. -/
theorem commitStepsAdvanceOrFail : Obligations.CommitStepsAdvanceOrFail := by
  unfold Obligations.CommitStepsAdvanceOrFail
  refine ⟨fun s r copy readBack => ?ops, fun s idle => exec_nvweInactive_idle idle, fun s r copy => ?stop⟩
  case ops =>
    rintro ⟨runs, mailbox⟩ wf
    have fails (nv : List Host.Cell) (cause : CommitCause) :
        (s.setNv nv).failCommit r cause = commitFailed s r copy (commitCauseByte cause) nv := failCommit_eq (s := s.setNv nv) mailbox cause
    refine ⟨fun phase length => ?erase, fun phase small length erased => ?program, fun phase last length erased => ?generation,
      fun phase last length erased => ?marker⟩
    case erase =>
      have written := nvWriteList_written wf (nvAddress r.target r.page.val 0) readBack
      have run := exec_erasePageDone runs phase readBack
      refine ⟨fun read => ?_, fun bad unmarked => ⟨_, written, ?_⟩⟩
      · rw [eraseDone_eq length (fun _ => by rw [read]; decide)] at run
        refine ⟨fun last => ⟨_, written, ?_⟩, fun less => ⟨_, written, ?_⟩, fun last => ⟨_, written, ?_⟩⟩
        · rw [run, if_pos read, if_pos last]
          rfl
        · have not63 : r.page ≠ 63 := fun same => absurd (congrArg Fin.val same) (Nat.ne_of_lt (Nat.lt_trans less (by decide)))
          have not62 : r.page ≠ 62 := fun same => absurd (congrArg Fin.val same) (Nat.ne_of_lt less)
          rw [run, if_pos read, if_neg not63, if_neg not62]
          rfl
        · rw [run, if_pos read, if_neg (by rw [last]; decide), if_pos last]
          rfl
      · rw [run, eraseDone_eq length unmarked, if_neg bad, fails]
        rfl
    case program =>
      have run := exec_programPageDone runs phase readBack
      obtain ⟨written, read⟩ := programmed_erased wf (a := nvAddress r.target r.page.val 0) (readBack := readBack) (by rwa [length])
      rw [length] at read
      simp only [State.programDone, fullPage_eq length, setNv_cm, pageBytes, read, imagePage, ← imageLayout_eq] at run
      refine ⟨fun good less => ⟨_, written, ?_⟩, fun good last => ⟨_, written, ?_⟩, fun bad => ⟨_, written, ?_⟩⟩
      · rw [run, if_pos good, if_neg fun same => absurd (congrArg Fin.val same) (Nat.ne_of_lt less)]
        rfl
      · rw [run, if_pos good, if_pos last]
        rfl
      · rw [run, if_neg bad, fails]
        rfl
    case generation =>
      have run := exec_markGenerationDone runs phase readBack
      obtain ⟨written, read⟩ := programmed_erased wf (a := nvAddress r.target 63 0) (readBack := readBack) (by rwa [length])
      rw [length] at read
      simp only [State.generationDone, fullPage_take length, setNv_cm, read, wordBytes_eq_be32] at run
      have base : nvAddress r.target r.page.val 0 = nvAddress r.target 63 0 := by rw [last]; rfl
      rw [base]
      refine ⟨fun good => ⟨_, written, ?_⟩, fun bad => ⟨_, written, ?_⟩⟩
      · rw [run, if_pos good]
        rfl
      · rw [run, if_neg bad, fails]
        rfl
    case marker =>
      have run := exec_markMarkerDone runs phase readBack
      obtain ⟨written, read⟩ := programmed_erased wf (a := nvAddress r.target 63 4) (readBack := readBack) (by rwa [length])
      rw [length] at read
      simp only [State.markerDone, fullPage_take length, setNv_cm, markerBytes, read] at run
      have base : nvAddress r.target r.page.val 0 + 4 = nvAddress r.target 63 4 := by rw [last]; exact (nvAddress_from _ _ 4).symm
      rw [base]
      refine ⟨fun good => ⟨_, written, ?_⟩, fun bad => ⟨_, written, ?_⟩⟩
      · rw [run, if_pos (show readBack = validMarker from good)]
        exact congrArg Host.Outcome.next (endCommit_eq (s := s.setNv _) mailbox)
      · rw [run, if_neg (show readBack ≠ validMarker from bad), fails]
        rfl
  case stop =>
    rintro ⟨runs, mailbox⟩ wf
    obtain ⟨written, -⟩ := stopOperation_written wf runs
    refine ⟨s.stopOperation.cm.nv, ?_, fun a outside => ?_, fun progress => progress.stopped wf runs⟩
    · rw [exec_nvweInactive runs, failCommit_eq (s := s.stopOperation) (copy := copy)]
      · simp only [State.stopOperation, runs]
        rfl
      · simpa only [State.stopOperation, runs] using mailbox
    · rw [written, if_neg]
      have short := stoppedPage_length_le s.cm.nv s.cu.catalogue r s.freeCount
      rintro ⟨low, high⟩
      refine outside (a - nvAddress r.target r.page.val 0) (by omega) ?_
      rw [nvAddress_from]
      omega

end Sys2Proof.Machine

namespace Sys2Proof.Safety

open Sys2Proof.Machine Sys2Proof.Claim

/-! ### A power failure (O52) -/

/-- The bank of the highest generation is the one that the load chooses. -/
theorem chooseBank_newest {nv : List Host.Cell} {b : Bank} {g : Word} {cat : Catalogue} (valid : classifyBank nv b = .valid g cat)
    (newer : ∀ (d : Bank) (g' : Word) (cat' : Catalogue), d ≠ b → classifyBank nv d = .valid g' cat' →
      g'.toNat < g.toNat ∨ (g' = g ∧ b = 0)) : chooseBank (classifyBank nv 0) (classifyBank nv 1) = some (b, g, cat) := by
  have found := chosen_chooseBank nv
  generalize chooseBank (classifyBank nv 0) (classifyBank nv 1) = choice at found
  cases found with
  | none invalid => exact absurd valid (invalid b g cat)
  | bank b' g' cat' valid' newer' =>
    by_cases same : b' = b
    · subst same
      obtain ⟨rfl, rfl⟩ := BankCondition.valid.inj (valid'.symm.trans valid)
      rfl
    · exfalso
      obtain less | ⟨equal, zero⟩ := newer b' g' cat' same valid'
      · obtain more | ⟨rfl, -⟩ := newer' b g cat (Ne.symm same) valid
        · omega
        · omega
      · obtain more | ⟨-, zero'⟩ := newer' b g cat (Ne.symm same) valid
        · rw [equal] at more
          omega
        · exact same (zero'.trans zero.symm)

/-- Settles O52: a commit that is cut off has left the active bank alone and its target without the marker. -/
theorem powerFailureKeepsCommittedCatalogue : Obligations.PowerFailureKeepsCommittedCatalogue := by
  unfold Obligations.PowerFailureKeepsCommittedCatalogue
  intro s b g h run released active
  obtain ⟨cat, valid⟩ := h.active b g active
  let t := s.takeReset .powerOn .auto false
  have other (d : Bank) (away : d ≠ commitBank s) : classifyBank t.cm.nv d = classifyBank s.cm.nv d :=
    classify_of_pages fun p hp => takeReset_other h.canonical away hp _ _ _
  have mine : classifyBank t.cm.nv b = .valid g cat := (other b (commitBank_ne h.commit active)).trans valid
  have newer : ∀ (d : Bank) (g' : Word) (cat' : Catalogue), d ≠ b → classifyBank t.cm.nv d = .valid g' cat' →
      g'.toNat < g.toNat ∨ (g' = g ∧ b = 0) := by
    intro d g' cat' away found
    cases runs : s.cm.commit with
    | none =>
      rw [show t.cm.nv = s.cm.nv from takeReset_nv runs _ _ _] at found
      exact h.newer b g active d g' cat' away found
    | some r =>
      by_cases here : d = r.target
      · have unmarked : classifyBank t.cm.nv d = .unmarked := by
          rw [here]
          exact classifyBank_eq_unmarked.2 ((h.progress r runs).stopped h.canonical runs)
        rw [unmarked] at found
        cases found
      · rw [other d (by rwa [commitBank, runs])] at found
        exact h.newer b g active d g' cat' away found
  exact ⟨cat, t, t.loadCatalogue, valid, rfl, exec_catalogueLoad rfl released, loadedFrom_of_choice (chooseBank_newest mine newer)⟩

/-! ### The part right after reset (O57) -/

/-- Settles O57, from the reset values. -/
theorem resetObeysLaws : Obligations.ResetObeysLaws := by
  unfold Obligations.ResetObeysLaws
  obtain ⟨leases, head⟩ := Sound.of_resetValues reset_values
  have flags := FlagsSound.of_resetValues reset_values
  exact ⟨leases, head, .of_boot reset_nv_wf rfl emptyCatalogue_valid rfl rfl CommitState.noConfusion, flags.attn, flags.boxes,
    by simp [HoldReasons, State.reset], by simp [LineFollowsStopin, State.reset], fun _ => ⟨reset_values, rfl, rfl⟩⟩

end Sys2Proof.Safety

/-! Replies: how they are heard, refused and answered again, and the sessions they open and close (O22, O24, O25, O26). -/

namespace Sys2Proof.Machine

open Sys2Proof.Claim Sys2Proof.Safety

/-! ### What a reply that is heard leaves (R88) -/

/-- A reply that is heard in one record update. -/
theorem heard_eq (s : State) (x : Exchange) (ack : Option Byte) : heard s x ack =
    { s with
      li := { s.li with receiver := .hunt, lineHeld := false }
      ct := s.ct.set x.target { s.ct[x.target] with
        state := if s.ct[x.target].state = .silent then .joined else s.ct[x.target].state
        misses := 0
        outbox := match ack with | some n => acknowledge n s.ct[x.target].outbox | none => s.ct[x.target].outbox }
      attn := if s.ct[x.target].state = .silent then s.attn.post (.returned x.target) s.lt.clock else s.attn } :=
  acceptReply_eq _ x.target ack

@[simp] theorem heard_mc (s : State) (x : Exchange) (ack : Option Byte) : (heard s x ack).mc = s.mc := by rw [heard_eq]
@[simp] theorem heard_cu (s : State) (x : Exchange) (ack : Option Byte) : (heard s x ack).cu = s.cu := by rw [heard_eq]
@[simp] theorem heard_lt (s : State) (x : Exchange) (ack : Option Byte) : (heard s x ack).lt = s.lt := by rw [heard_eq]

theorem heard_record (s : State) (x : Exchange) (ack : Option Byte) : ∃ outbox, (heard s x ack).ct[x.target] =
    { s.ct[x.target] with
      state := if s.ct[x.target].state = .silent then .joined else s.ct[x.target].state
      misses := 0
      outbox := outbox } := by
  rw [heard_eq]
  exact ⟨_, (vector_get_set _ _ _ _).trans (if_pos rfl)⟩

theorem heard_last (s : State) (x : Exchange) (ack : Option Byte) : (heard s x ack).ct[x.target].last = s.ct[x.target].last := by
  obtain ⟨_, h⟩ := heard_record s x ack
  rw [h]

theorem heard_session (s : State) (x : Exchange) (ack : Option Byte) : (heard s x ack).ct[x.target].session = s.ct[x.target].session := by
  obtain ⟨_, h⟩ := heard_record s x ack
  rw [h]

theorem heard_state (s : State) (x : Exchange) (ack : Option Byte) : (heard s x ack).ct[x.target].state =
    if s.ct[x.target].state = .silent then .joined else s.ct[x.target].state := by
  obtain ⟨_, h⟩ := heard_record s x ack
  rw [h]

theorem heard_joined {s : State} {x : Exchange} (present : Present s x.target) (ack : Option Byte) :
    (heard s x ack).ct[x.target].state = .joined := by
  rw [heard_state]
  obtain joined | silent := present
  · rw [if_neg (by rw [joined]; decide), joined]
  · rw [if_pos silent]

theorem heard_absent {s : State} {x : Exchange} {ack : Option Byte} :
    (heard s x ack).ct[x.target].state = .absent ↔ s.ct[x.target].state = .absent := by
  rw [heard_state]
  split
  · next silent => rw [silent]; decide
  · rfl

theorem heard_inService (s : State) (x : Exchange) (ack : Option Byte) : (heard s x ack).inService = served s := by
  rw [State.inService, heard_mc]

theorem heard_bundlesOf (s : State) (x : Exchange) (ack : Option Byte) (c : Slot) : (heard s x ack).bundlesOf c = s.bundlesOf c :=
  bundlesOf_congr (by rw [heard_ge]) c

theorem heard_entryOf (s : State) (x : Exchange) (ack : Option Byte) (c : Slot) : (heard s x ack).entryOf c = s.entryOf c := by
  rw [State.entryOf, State.entryOf, heard_ge]

/-! ### The tables in the words of the statements -/

theorem bundlesOf_eq_heldBy (s : State) (c : Slot) : s.bundlesOf c = heldBy s c := rfl

theorem entryOf_eq_entryFor (s : State) (c : Slot) : s.entryOf c = entryFor s c := by
  simp only [State.entryOf, entryFor, beq_eq_decide]

theorem entryOf_isSome_iff {s : State} {c : Slot} : (s.entryOf c).isSome = true ↔ Waits s c := by
  simp [State.entryOf, Waits]

theorem removeEntry_eq_entryGone (s : State) (c : Slot) : s.removeEntry c = entryGone s c := by
  simp only [State.removeEntry, State.setEntries, entryGone, beq_eq_decide, decide_not]

theorem releaseBundles_eq_releasedAll (s : State) (ids : List BundleId) : s.releaseBundles ids = releasedAll s ids := rfl

theorem endBundles_eq_endedAll (s : State) (ids : List BundleId) (d : ZoneId → ExpiryPolicy) : s.endBundles ids d = endedAll s ids d := rfl

/-! ### A request that is evaluated (R88, R105, R106) -/

theorem duplicateAnswer_heard_of_new {s : State} {x : Exchange} {seq : RequestSeq} (new : NewSequence s x.target seq) (ack : Option Byte)
    (req : Request) : (heard s x ack).duplicateAnswer x.target seq req = none := by
  rw [NewSequence, ← heard_last s x ack] at new
  unfold State.duplicateAnswer
  split
  · rfl
  · split
    · next a last =>
      rw [last] at new
      exact if_neg fun same => new (congrArg some same)
    · rfl

theorem duplicateAnswer_join {s : State} {c : Slot} (absent : s.ct[c].state = .absent) (seq : RequestSeq) (session : Half) :
    s.duplicateAnswer c seq (.join session) = none := if_pos ⟨rfl, absent⟩

/-- A request that is no duplicate is evaluated, and its answer stored and given to the exchange. -/
theorem exec_evaluated {s t : State} {x : Exchange} {w : Nat} {d : Bool} {seq : RequestSeq} {ack : Option Byte} {req : Request} {a : Answer}
    (awaits : Awaits s x w d) (new : (heard s x ack).duplicateAnswer x.target seq req = none)
    (evaluated : (heard s x ack).evaluate x.target req = (t, a)) :
    exec (requestRow seq ack req) s = .next (answering t x seq a) := by
  obtain ⟨awaiting, stands⟩ := awaits
  rw [exec_requestRow, deliverReply_request awaiting (exchangeStands_iff.2 stands), handleRequest_new _ new, evaluated]
  rfl

theorem exec_new {s t : State} {x : Exchange} {w : Nat} {d : Bool} {seq : RequestSeq} {ack : Option Byte} {req : Request} {a : Answer}
    (awaits : Awaits s x w d) (new : NewSequence s x.target seq) (evaluated : (heard s x ack).evaluate x.target req = (t, a)) :
    exec (requestRow seq ack req) s = .next (answering t x seq a) :=
  exec_evaluated awaits (duplicateAnswer_heard_of_new new ack req) evaluated

/-- Settles O22, from what a reply does before its request is looked at. -/
theorem replyIsHeard : Obligations.ReplyIsHeard := by
  unfold Obligations.ReplyIsHeard
  refine ⟨fun s c ack => ⟨fun silent => ?_, fun other => ?_⟩, fun s x w d ack awaits => exec_idle_of_awaits awaits ack⟩
  · have accepted := acceptReply_eq s c ack
    rw [if_pos silent, if_pos silent] at accepted
    exact accepted
  · have accepted := acceptReply_eq s c ack
    rw [if_neg other, if_neg other] at accepted
    exact accepted

/-- A request under the sequence of the stored answer is a duplicate. -/
theorem duplicateAnswer_stored {s : State} {c : Slot} {a : StoredAnswer} {req : Request} (last : s.ct[c].last = some a)
    (present : ¬ (req.isJoin = true ∧ s.ct[c].state = .absent)) : s.duplicateAnswer c a.seq req = some a := by
  rw [State.duplicateAnswer, if_neg present, last]
  exact if_pos rfl

theorem isJoin_iff {req : Request} : req.isJoin = true ↔ ∃ session, req = .join session := by
  cases req with
  | join session => exact iff_of_true rfl ⟨session, rfl⟩
  | malformed | leave | acquire | cancel | renew | release | status => exact iff_of_false Bool.false_ne_true (by simp)

/-- A reply outside AWAITING changes nothing. -/
theorem deliverReply_of_not_awaiting {s : State} (h : ∀ x w d, s.es.exchange ≠ .awaiting x w d) (reply : Reply) :
    s.deliverReply reply = s := by
  cases exchange : s.es.exchange with
  | gap | polling | answering => rw [State.deliverReply, exchange]
  | awaiting x w d => exact absurd exchange (h x w d)

/-- Settles O24: a duplicate is answered from the store, and a stray reply only ends the exchange. -/
theorem duplicatesAndStrayRepliesActOnNothing : Obligations.DuplicatesAndStrayRepliesActOnNothing := by
  unfold Obligations.DuplicatesAndStrayRepliesActOnNothing
  refine ⟨fun s x w d a ack req awaits last present => ?duplicate, fun s row isReply => ?stray⟩
  case duplicate =>
    obtain ⟨awaiting, stands⟩ := awaits
    have stored : (heard s x ack).duplicateAnswer x.target a.seq req = some a := by
      refine duplicateAnswer_stored ((heard_last s x ack).trans last) ?_
      rintro ⟨join, absent⟩
      exact present (isJoin_iff.1 join) (heard_absent.1 absent)
    rw [exec_requestRow, deliverReply_request awaiting (exchangeStands_iff.2 stands), handleRequest_duplicate _ stored]
    rfl
  case stray =>
    obtain ⟨reply, delivers⟩ : ∃ reply, exec row s = .next (s.deliverReply reply) := by
      obtain ⟨ack, rfl⟩ | ⟨seq, ack, req, rfl⟩ := isReply
      · exact ⟨.idle ack, rfl⟩
      · exact ⟨.request seq ack req, exec_requestRow s seq ack req⟩
    rw [delivers]
    refine ⟨fun x w d awaiting gone => ?_, fun other => by rw [deliverReply_of_not_awaiting other]⟩
    rw [deliverReply_gone awaiting (mt exchangeStands_iff.1 gone)]
    rfl

/-! ### Mode and session (O25) -/

/-- Outside SERVING and HOLD every request but a JOIN is refused NOT_SERVING. -/
theorem evaluate_not_serving {s : State} {c : Slot} {req : Request} (out : s.inService = false) (notJoin : ∀ session, req ≠ .join session)
    (wellFormed : req ≠ .malformed) (few : ∀ tag wait term zones, req = .acquire tag wait term zones → zones.length ≤ 6) :
    s.evaluate c req = (s, .notServing) := by
  have no : (!s.inService) = true := by rw [out]; rfl
  cases req with
  | malformed => exact absurd rfl wellFormed
  | join session => exact absurd rfl (notJoin session)
  | leave => exact if_pos no
  | acquire tag wait term zones => exact (if_neg (Nat.not_lt.2 (few _ _ _ _ rfl))).trans (if_pos no)
  | cancel tag => exact if_pos no
  | renew bundle token term =>
    have owned : s.ownedBundle c bundle token = .error .notServing := if_pos no
    rw [State.evaluate, State.renew, owned]
  | release bundle token zone =>
    have owned : s.ownedBundle c bundle token = .error .notServing := if_pos no
    rw [State.evaluate, State.release, owned]
  | status => exact if_pos no

/-- Without a session every request but a JOIN is refused NOT_JOINED. -/
theorem evaluate_not_joined {s : State} {c : Slot} {req : Request} (served : s.inService = true) (out : s.ct[c].state ≠ .joined)
    (notJoin : ∀ session, req ≠ .join session) (wellFormed : req ≠ .malformed)
    (few : ∀ tag wait term zones, req = .acquire tag wait term zones → zones.length ≤ 6) : s.evaluate c req = (s, .notJoined) := by
  have yes : ¬ (!s.inService) = true := by rw [served]; decide
  cases req with
  | malformed => exact absurd rfl wellFormed
  | join session => exact absurd rfl (notJoin session)
  | leave => exact (if_neg yes).trans (if_pos out)
  | acquire tag wait term zones => exact (if_neg (Nat.not_lt.2 (few _ _ _ _ rfl))).trans ((if_neg yes).trans (if_pos out))
  | cancel tag => exact (if_neg yes).trans (if_pos out)
  | renew bundle token term =>
    have owned : s.ownedBundle c bundle token = .error .notJoined := (if_neg yes).trans (if_pos out)
    rw [State.evaluate, State.renew, owned]
  | release bundle token zone =>
    have owned : s.ownedBundle c bundle token = .error .notJoined := (if_neg yes).trans (if_pos out)
    rw [State.evaluate, State.release, owned]
  | status => exact (if_neg yes).trans (if_pos out)

/-! ### Bundle and token (R38, R74) -/

theorem bundleOfByte_eq_some {byte : Byte} {b : BundleId} (h : bundleOfByte byte = some b) : byte = bundleByte b := by
  unfold bundleOfByte at h
  split at h
  · obtain rfl := Option.some.inj h
    refine BitVec.eq_of_toNat_eq ?_
    rw [bundleByte, BitVec.toNat_ofNat]
    exact (Nat.mod_eq_of_lt byte.isLt).symm
  · exact absurd h (by simp)

/-- A request on a bundle that is not the client's. -/
theorem ownedBundle_not_own {s : State} {c : Slot} {bundle : Byte} (served : s.inService = true) (joined : s.ct[c].state = .joined)
    (other : ∀ (b : BundleId) (y : Bundle), bundle = bundleByte b → s.ge.bundles[b] = some y → y.holder ≠ c) (token : Half) :
    s.ownedBundle c bundle token = .error .noSuchBundle := by
  rw [State.ownedBundle, if_neg (by rw [served]; decide), if_neg (not_not.2 joined)]
  cases named : bundleOfByte bundle with
  | none => rfl
  | some b =>
    dsimp only
    cases live : s.ge.bundles[b] with
    | none => rfl
    | some y => exact if_pos (other b y (bundleOfByte_eq_some named) live)

/-- A request on a bundle of the client. -/
theorem ownedBundle_own {s : State} {c : Slot} {b : BundleId} {y : Bundle} (served : s.inService = true) (joined : s.ct[c].state = .joined)
    (live : s.ge.bundles[b] = some y) (holder : y.holder = c) (token : Half) :
    s.ownedBundle c (bundleByte b) token = if y.token ≠ token then .error .badToken else .ok (b, y) := by
  rw [State.ownedBundle, if_neg (by rw [served]; decide), if_neg (not_not.2 joined), bundleOfByte_val]
  dsimp only
  rw [live]
  exact if_neg (not_not.2 holder)

theorem renew_of_error {s : State} {c : Slot} {bundle : Byte} {token : Half} {a : Answer} (h : s.ownedBundle c bundle token = .error a)
    (term : Half) : s.evaluate c (.renew bundle token term) = (s, a) := by
  rw [State.evaluate, State.renew, h]

theorem release_of_error {s : State} {c : Slot} {bundle : Byte} {token : Half} {a : Answer} (h : s.ownedBundle c bundle token = .error a)
    (zone : Byte) : s.evaluate c (.release bundle token zone) = (s, a) := by
  rw [State.evaluate, State.release, h]

/-- Settles O25, from the checks that stand before every request. -/
theorem requestsNeedModeSessionAndToken : Obligations.RequestsNeedModeSessionAndToken := by
  unfold Obligations.RequestsNeedModeSessionAndToken
  refine ⟨fun s x w d seq ack awaits new => ⟨exec_new (req := .malformed) awaits new rfl, fun req notJoin wellFormed few => ⟨?_, ?_⟩⟩,
    fun s x w d seq ack bundle token term zone asks => ?_⟩
  · intro out
    exact exec_new awaits new (evaluate_not_serving ((heard_inService s x ack).trans out) notJoin wellFormed few)
  · intro inService absent
    refine exec_new awaits new (evaluate_not_joined ((heard_inService s x ack).trans inService) ?_ notJoin wellFormed few)
    rw [heard_absent.2 absent]
    decide
  · obtain ⟨awaits, inService, present, new⟩ := asks
    have served := (heard_inService s x ack).trans inService
    have joined := heard_joined present ack
    have refusals {a : Answer} (h : (heard s x ack).ownedBundle x.target bundle token = .error a) :
        exec (.renew seq ack bundle token term) s = .next (refusedBy s x ack seq a) ∧
          exec (.release seq ack bundle token zone) s = .next (refusedBy s x ack seq a) :=
      ⟨exec_new (req := .renew bundle token term) awaits new (renew_of_error h term),
        exec_new (req := .release bundle token zone) awaits new (release_of_error h zone)⟩
    refine ⟨fun other => refusals (ownedBundle_not_own served joined ?_ token), fun b y named live holder bad => refusals ?_⟩
    · rw [heard_ge]
      exact other
    · subst named
      rw [ownedBundle_own served joined ((heard_ge s x ack).symm ▸ live) holder, if_pos bad]

/-! ### Sessions (O26) -/

theorem join_out {s : State} (out : s.inService = false) (c : Slot) (session : Half) : s.join c session = (s, .notServing) :=
  if_pos (by rw [out]; rfl)

theorem join_zero {s : State} (served : s.inService = true) (c : Slot) : s.join c 0#16 = (s, .malformed) :=
  (if_neg (by rw [served]; decide)).trans (if_pos rfl)

theorem join_new {s : State} {c : Slot} {session : Half} (served : s.inService = true) (nonzero : session ≠ 0#16)
    (out : s.ct[c].state ≠ .joined) : s.join c session = (s.newSession c session, .joined .new 0 false 0) :=
  (if_neg (by rw [served]; decide)).trans ((if_neg nonzero).trans (if_pos out))

theorem join_resumed {s : State} {c : Slot} {session : Half} (served : s.inService = true) (nonzero : session ≠ 0#16)
    (joined : s.ct[c].state = .joined) (same : s.ct[c].session = some session) :
    s.join c session = (s, .joined .resumed (s.bundlesOf c).length (s.entryOf c).isSome s.ct[c].outbox.length) :=
  (if_neg (by rw [served]; decide)).trans ((if_neg nonzero).trans ((if_neg (not_not.2 joined)).trans (if_pos same)))

theorem join_fresh {s : State} {c : Slot} {session : Half} (served : s.inService = true) (nonzero : session ≠ 0#16)
    (joined : s.ct[c].state = .joined) (other : s.ct[c].session ≠ some session) :
    s.join c session = (s.freshSession c session, .joined .fresh 0 false 0) :=
  (if_neg (by rw [served]; decide)).trans ((if_neg nonzero).trans ((if_neg (not_not.2 joined)).trans (if_neg other)))

theorem freshSession_eq (s : State) (c : Slot) (session : Half) : s.freshSession c session =
    (withClient (entryGone (endedAll s (s.bundlesOf c) fun z => s.cu.catalogue.zones[z].policy) c) c fun r =>
      { r with state := .joined, session := some session, misses := 0, last := none, outbox := [] }).requestScan := by
  rw [← removeEntry_eq_entryGone]
  rfl

theorem leave_eq {s : State} {c : Slot} (served : s.inService = true) (joined : s.ct[c].state = .joined) :
    s.leave c = ((withClient (entryGone (releasedAll s (s.bundlesOf c)) c) c fun r =>
      { r with state := .absent, session := none, misses := 0, outbox := [] }).requestScan, .left (s.bundlesOf c).length) := by
  rw [← removeEntry_eq_entryGone]
  exact (if_neg (by rw [served]; decide)).trans (if_neg (not_not.2 joined))

/-- Settles O26, case by case of JOIN, and LEAVE. -/
theorem sessionsOpenAndClose : Obligations.SessionsOpenAndClose := by
  unfold Obligations.SessionsOpenAndClose
  refine ⟨fun s x w d seq ack session => ?join, fun s x w d seq ack asks => ?leave⟩
  case join =>
    intro c h awaits
    have service := heard_inService s x ack
    have notDuplicate (session : Half) (free : s.ct[c].state = .absent ∨ NewSequence s c seq) :
        (heard s x ack).duplicateAnswer x.target seq (.join session) = none := by
      obtain absent | new := free
      · exact duplicateAnswer_join (heard_absent.2 absent) seq session
      · exact duplicateAnswer_heard_of_new new ack _
    refine ⟨fun inService nonzero absent => ?new, fun inService nonzero present new same => ?resumed,
      fun inService nonzero present new other => ?fresh, fun out free => ?out, fun inService free => ?zero⟩
    case new =>
      refine exec_evaluated (req := .join session) awaits (notDuplicate session (.inl absent)) ?_
      refine join_new (service.trans inService) nonzero ?_
      rw [heard_absent.2 absent]
      decide
    case resumed =>
      refine exec_new (req := .join session) awaits new ?_
      have resumed := join_resumed (service.trans inService) nonzero (heard_joined present ack) ((heard_session s x ack).trans same)
      rw [heard_bundlesOf, heard_entryOf, Bool.eq_iff_iff.2 (entryOf_isSome_iff.trans decide_eq_true_iff.symm)] at resumed
      exact resumed
    case fresh =>
      refine exec_new (req := .join session) awaits new ?_
      have fresh := join_fresh (service.trans inService) nonzero (heard_joined present ack)
        (session := session) (fun same => other ((heard_session s x ack).symm.trans same))
      rw [freshSession_eq, heard_bundlesOf, heard_cu] at fresh
      exact fresh
    case out => exact exec_evaluated (req := .join session) awaits (notDuplicate session free) (join_out (service.trans out) _ _)
    case zero => exact exec_evaluated (req := .join 0#16) awaits (notDuplicate 0#16 free) (join_zero (service.trans inService) _)
  case leave =>
    obtain ⟨awaits, inService, present, new⟩ := asks
    refine exec_new (req := .leave) awaits new ?_
    have left := leave_eq ((heard_inService s x ack).trans inService) (heard_joined present ack)
    rw [heard_bundlesOf] at left
    exact left

end Sys2Proof.Machine

/-! The deadlock check (O30). -/

namespace Sys2Proof.Machine

open Sys2Proof.Claim Sys2Proof.Safety

/-! ### Edges (R51) -/

theorem derivedState_eq_full {s : State} {z : ZoneId} : s.derivedState z = .full ↔ s.ge.zones[z].closed = false ∧
    s.ge.zones[z].fences = 0 ∧ s.ge.zones[z].holders.length = s.cu.catalogue.zones[z].capacity := by
  unfold State.derivedState
  dsimp only
  split_ifs with closed fenced full partly
  · exact iff_of_false (by simp) fun ⟨opened, _⟩ => absurd (closed.symm.trans opened) (by simp)
  · exact iff_of_false (by simp) fun ⟨_, zero, _⟩ => absurd fenced (by rw [zero]; decide)
  · exact iff_of_true rfl ⟨Bool.eq_false_iff.2 closed, by omega, full⟩
  · exact iff_of_false (by simp) fun ⟨_, _, all⟩ => full all
  · exact iff_of_false (by simp) fun ⟨_, _, all⟩ => full all

theorem mem_waitEdges {s : State} {older : List Entry} {zs : List ZoneId} {d : Slot} :
    d ∈ s.waitEdges older zs ↔ EdgeTo s older zs d := by
  have holders : d ∈ s.holderEdges zs ↔ ∃ z ∈ zs, s.ge.zones[z].closed = false ∧ s.ge.zones[z].fences = 0 ∧
      s.ge.zones[z].holders.length = s.cu.catalogue.zones[z].capacity ∧
      ∃ b ∈ s.ge.zones[z].holders, ∃ y, s.ge.bundles[b] = some y ∧ y.holder = d := by
    simp only [State.holderEdges, List.mem_flatMap]
    refine exists_congr fun z => and_congr_right fun _ => ?_
    by_cases full : s.derivedState z = .full
    · obtain ⟨closed, fences, holders⟩ := derivedState_eq_full.1 full
      simp [full, closed, fences, holders, -Fin.getElem_fin]
    · refine iff_of_false (by simp [full]) fun ⟨closed, fences, holders, _⟩ => full (derivedState_eq_full.2 ⟨closed, fences, holders⟩)
  have order : d ∈ orderEdges older zs ↔ ∃ e ∈ older, e.client = d ∧ ∃ z ∈ e.zones, z ∈ zs := by
    simp only [orderEdges, List.mem_map, List.mem_filter, List.any_eq_true, decide_eq_true_eq]
    exact exists_congr fun e => by rw [and_assoc, and_comm (a := ∃ z ∈ e.zones, z ∈ zs)]
  rw [State.waitEdges, List.mem_append, holders, order]

theorem mem_edgesFrom {s : State} {c d : Slot} : d ∈ s.edgesFrom c ↔ WaitEdge s c d := by
  unfold State.edgesFrom
  constructor
  · intro h
    cases entry : s.entryOf c with
    | none =>
      rw [entry] at h
      exact absurd h (by simp)
    | some e =>
      rw [entry] at h
      obtain ⟨client, older, younger, entries, others⟩ := List.find?_eq_some_iff_append.1 entry
      have front : s.ge.entries.takeWhile (fun e' => !(e'.client == c)) = older := by
        rw [entries, List.takeWhile_append_of_pos (fun e' he' => by simpa using others e' he')]
        simp [client]
      rw [front] at h
      exact ⟨older, e, younger, entries, by simpa using client, fun e' he' => by simpa using others e' he', mem_waitEdges.1 h⟩
  · rintro ⟨older, e, younger, entries, client, others, edge⟩
    have entry : s.entryOf c = some e := List.find?_eq_some_iff_append.2
      ⟨by simp [client], older, younger, entries, fun e' he' => by simpa using others e' he'⟩
    have front : s.ge.entries.takeWhile (fun e' => !(e'.client == c)) = older := by
      rw [entries, List.takeWhile_append_of_pos (fun e' he' => by simpa using others e' he')]
      simp [client]
    rw [entry, front]
    exact mem_waitEdges.2 edge

/-! ### What can be reached (R52) -/

theorem mem_reachMore {s : State} {l : List Slot} {c : Slot} : c ∈ s.reachMore l ↔ c ∈ l ∨ ∃ d ∈ l, WaitEdge s d c := by
  simp [State.reachMore, mem_edgesFrom]

/-- No edge leads out of the list. -/
def EdgeClosed (s : State) (l : List Slot) : Prop := ∀ d ∈ l, ∀ c, WaitEdge s d c → c ∈ l

theorem EdgeClosed.reachMore {s : State} {l : List Slot} (h : EdgeClosed s l) : EdgeClosed s (s.reachMore l) := by
  have same {c : Slot} : c ∈ s.reachMore l → c ∈ l := fun hc => by
    obtain here | ⟨d, hd, edge⟩ := mem_reachMore.1 hc
    · exact here
    · exact h d hd c edge
  exact fun d hd c edge => mem_reachMore.2 (.inl (h d (same hd) c edge))

theorem EdgeClosed.reach {s : State} (n : Nat) : ∀ {l : List Slot}, EdgeClosed s l → EdgeClosed s (s.reach n l) := by
  induction n with
  | zero => exact fun h => h
  | succ n ih => exact fun h => ih h.reachMore

/-- As long as an edge leads out of the list, following the edges makes it longer. -/
theorem reach_closed_or_grows (s : State) (n : Nat) : ∀ l : List Slot,
    EdgeClosed s (s.reach n l) ∨ n + l.toFinset.card ≤ (s.reach n l).toFinset.card := by
  induction n with
  | zero => exact fun l => .inr (by rw [Nat.zero_add]; exact le_rfl)
  | succ n ih =>
    intro l
    by_cases closed : EdgeClosed s l
    · exact .inl (closed.reach (n + 1))
    · obtain done | grows := ih (s.reachMore l)
      · exact .inl done
      · right
        have more : l.toFinset.card < (s.reachMore l).toFinset.card := by
          simp only [EdgeClosed, not_forall] at closed
          obtain ⟨d, hd, c, edge, out⟩ := closed
          refine Finset.card_lt_card (Finset.ssubset_iff_of_subset (fun e he => ?_) |>.2 ⟨c, ?_, by simpa using out⟩)
          · exact List.mem_toFinset.2 (mem_reachMore.2 (.inl (List.mem_toFinset.1 he)))
          · exact List.mem_toFinset.2 (mem_reachMore.2 (.inr ⟨d, hd, edge⟩))
        show n + 1 + l.toFinset.card ≤ (s.reach n (s.reachMore l)).toFinset.card
        omega

/-- 32 steps reach all that can be reached. -/
theorem reach_closed (s : State) (l : List Slot) : EdgeClosed s (s.reach 32 l) := by
  obtain closed | grows := reach_closed_or_grows s 32 l
  · exact closed
  · have all : (s.reach 32 l).toFinset = Finset.univ := by
      refine Finset.eq_univ_of_card _ (le_antisymm (Finset.card_le_univ _) ?_)
      rw [Fintype.card_fin]
      omega
    exact fun _ _ c _ => List.mem_toFinset.1 (all ▸ Finset.mem_univ c)

theorem mem_reach {s : State} (n : Nat) : ∀ {l : List Slot} {c : Slot}, c ∈ s.reach n l →
    ∃ d ∈ l, Relation.ReflTransGen (WaitEdge s) d c := by
  induction n with
  | zero => exact fun h => ⟨_, h, .refl⟩
  | succ n ih =>
    intro l c h
    obtain ⟨d, hd, path⟩ := ih h
    obtain here | ⟨e, he, edge⟩ := mem_reachMore.1 hd
    · exact ⟨d, here, path⟩
    · exact ⟨e, he, .head edge path⟩

theorem subset_reach {s : State} (n : Nat) : ∀ {l : List Slot} {c : Slot}, c ∈ l → c ∈ s.reach n l := by
  induction n with
  | zero => exact fun h => h
  | succ n ih => exact fun h => ih (mem_reachMore.2 (.inl h))

theorem wouldDeadlock_iff {s : State} {c : Slot} {zs : List ZoneId} : s.wouldDeadlock c zs = true ↔ Reaches s c zs := by
  rw [State.wouldDeadlock, decide_eq_true_iff]
  constructor
  · intro h
    obtain ⟨d, hd, path⟩ := mem_reach 32 h
    exact ⟨d, mem_waitEdges.1 hd, path⟩
  · rintro ⟨d, edge, path⟩
    induction path with
    | refl => exact subset_reach 32 (mem_waitEdges.2 edge)
    | tail _ last ih => exact reach_closed s _ _ ih _ last

/-- Settles O30: 32 steps follow every path among the 32 clients. -/
theorem deadlockCheckFindsEveryCycle : Obligations.DeadlockCheckFindsEveryCycle := by
  unfold Obligations.DeadlockCheckFindsEveryCycle
  exact fun _ _ _ => wouldDeadlock_iff

end Sys2Proof.Machine

/-! ACQUIRE: the checks in their order, the grant at once, and the wait (O27, O28, O29). -/

namespace Sys2Proof.Machine

open Sys2Proof.Claim Sys2Proof.Safety

/-! ### Terms (R30, R75) -/

theorem foldl_smallest {α : Type} (f : α → Half) (l : List α) : ∀ m : Half,
    let r := l.foldl (fun m a => if (f a).toNat < m.toNat then f a else m) m
    r.toNat ≤ m.toNat ∧ (∀ a ∈ l, r.toNat ≤ (f a).toNat) ∧ (r = m ∨ ∃ a ∈ l, f a = r) := by
  induction l with
  | nil => exact fun m => ⟨le_rfl, fun a ha => absurd ha (by simp), .inl rfl⟩
  | cons a l ih =>
    intro m
    obtain ⟨low, all, found⟩ := ih (if (f a).toNat < m.toNat then f a else m)
    rw [List.foldl_cons]
    generalize l.foldl (fun m a => if (f a).toNat < m.toNat then f a else m) (if (f a).toNat < m.toNat then f a else m) = r at *
    have both : r.toNat ≤ m.toNat ∧ r.toNat ≤ (f a).toNat := by
      split at low
      · omega
      · omega
    refine ⟨both.1, fun x hx => ?_, ?_⟩
    · obtain rfl | hx := List.mem_cons.1 hx
      · exact both.2
      · exact all x hx
    · obtain here | ⟨x, hx, same⟩ := found
      · split at here
        · exact .inr ⟨a, List.mem_cons_self, here.symm⟩
        · exact .inl here
      · exact .inr ⟨x, List.mem_cons_of_mem a hx, same⟩

/-- The bounding term is the smallest maximum term (R30). -/
theorem boundingTerm_eq {s : State} {zs : List ZoneId} {m : Half} (h : IsBoundingTerm s zs m) : boundingTerm s.cu.catalogue zs = m := by
  obtain ⟨⟨z, hz, is⟩, least⟩ := h
  obtain ⟨-, all, found⟩ := foldl_smallest (fun z : ZoneId => s.cu.catalogue.zones[z].maxTerm) zs 0xFFFF#16
  have low : (boundingTerm s.cu.catalogue zs).toNat ≤ m.toNat := is ▸ all z hz
  have high : m.toNat ≤ (boundingTerm s.cu.catalogue zs).toNat := by
    obtain top | ⟨y, hy, same⟩ := found
    · have : (boundingTerm s.cu.catalogue zs).toNat = 65535 := congrArg BitVec.toNat top
      have := m.isLt
      omega
    · exact (least y hy).trans (congrArg BitVec.toNat same).le
  exact BitVec.eq_of_toNat_eq (le_antisymm low high)

theorem resolveTerm_eq_some {m requested term : Half} : resolveTerm m requested = some term ↔ ResolvesTo m requested term := by
  unfold resolveTerm
  split_ifs with zero small
  · simp only [ResolvesTo, zero, Option.some.injEq, true_and, ne_eq, not_true_eq_false, false_and, or_false]
    exact eq_comm
  · simp only [ResolvesTo, zero, small, Option.some.injEq, true_and, ne_eq, not_false_eq_true, false_and, false_or]
    exact eq_comm
  · exact iff_of_false (by simp) fun h => by
      obtain ⟨is, -⟩ | ⟨-, le, -⟩ := h
      · exact zero is
      · exact small le

theorem resolveTerm_eq_none {m requested : Half} : resolveTerm m requested = none ↔ m.toNat < requested.toNat := by
  unfold resolveTerm
  split_ifs with zero small
  · simp [zero]
  · simp [small]
  · simpa using small

/-! ### The admission (R35 to R37) -/

theorem clientHoldsZone_of_not {s : State} {c : Slot} {z : ZoneId} (h : ¬ Holds s c z) : s.clientHoldsZone c z = false :=
  Bool.eq_false_iff.2 (mt clientHoldsZone_iff.1 h)

theorem namedByEntry_iff {s : State} {z : ZoneId} : s.namedByEntry z = true ↔ Named s z := by simp [State.namedByEntry, Named]

theorem unhindered_iff {s : State} {zs : List ZoneId} : (zs.all fun z => s.zoneAvailable z && !s.namedByEntry z) = true ↔
    ∀ z ∈ zs, Available s z ∧ ¬ Named s z := by
  simp only [List.all_eq_true, Bool.and_eq_true, Bool.not_eq_true', Bool.eq_false_iff, ne_eq, zoneAvailable_iff, namedByEntry_iff]

theorem grantSlot_of_granted {s : State} {zs : List ZoneId} {b : BundleId} (h : GrantedInto s zs b) : s.grantSlot zs = some b := by
  obtain ⟨mode, free, lowest⟩ := h
  rw [State.grantSlot, if_pos ⟨mode, unhindered_iff.2 free⟩]
  exact freeSlot_eq_some.2 lowest

theorem grantSlot_of_notGranted {s : State} {zs : List ZoneId} (h : NotGranted s zs) : s.grantSlot zs = none := by
  unfold State.grantSlot
  split
  · next now =>
    obtain ⟨mode, free⟩ := now
    obtain other | ⟨z, hz, hindered⟩ | full := h
    · exact absurd mode other
    · obtain ⟨available, unnamed⟩ := unhindered_iff.1 free z hz
      exact absurd hindered (not_or.2 ⟨not_not.2 available, unnamed⟩)
    · exact freeSlot_eq_none.2 full
  · rfl

theorem grantOrWait_of_granted {s : State} {zs : List ZoneId} {b : BundleId} (h : GrantedInto s zs b) (c : Slot) (tag : Byte)
    (wait : Bool) (term : Half) : s.grantOrWait c tag wait term zs =
      (s.createBundle b c tag term zs, .granted b s.nextToken (deadlineLow s term)) := by
  simp only [State.grantOrWait, grantSlot_of_granted h]
  rfl

theorem grantOrWait_of_noWait {s : State} {zs : List ZoneId} (h : NotGranted s zs) (c : Slot) (tag : Byte) (term : Half) :
    s.grantOrWait c tag false term zs = (s, s.noWaitAnswer zs) := by
  simp only [State.grantOrWait, grantSlot_of_notGranted h]
  exact if_neg Bool.false_ne_true

theorem grantOrWait_of_wait {s : State} {zs : List ZoneId} (h : NotGranted s zs) (c : Slot) (tag : Byte) (term : Half) :
    s.grantOrWait c tag true term zs = s.wait c tag term zs := by
  unfold State.grantOrWait
  rw [grantSlot_of_notGranted h]
  dsimp only
  rw [if_pos rfl]

theorem blocked_iff {s : State} {zs : List ZoneId} : (zs.any fun z => !s.zoneAvailable z || s.namedByEntry z) = true ↔
    ∃ z ∈ zs, ¬ Available s z ∨ Named s z := by
  simp only [List.any_eq_true, Bool.or_eq_true, Bool.not_eq_true', zoneAvailable_eq_false, namedByEntry_iff]

theorem noWaitAnswer_of_blocked {s : State} {zs : List ZoneId} (h : ∃ z ∈ zs, ¬ Available s z ∨ Named s z) :
    s.noWaitAnswer zs = .unavailable := if_pos (blocked_iff.2 h)

theorem noWaitAnswer_of_full {s : State} {zs : List ZoneId} (free : ¬ ∃ z ∈ zs, ¬ Available s z ∨ Named s z) (full : TableFull s) :
    s.noWaitAnswer zs = .tableFull := by
  have none : s.freeSlot = none := freeSlot_eq_none.2 full
  have isNone : s.freeSlot.isNone = true := by rw [none]; rfl
  exact (if_neg (mt blocked_iff.1 free)).trans (if_pos isNone)

theorem noWaitAnswer_of_holding {s : State} {zs : List ZoneId} (free : ¬ ∃ z ∈ zs, ¬ Available s z ∨ Named s z) (room : ¬ TableFull s) :
    s.noWaitAnswer zs = .holding := by
  rw [State.noWaitAnswer, if_neg (mt blocked_iff.1 free), if_neg]
  rw [Option.isNone_iff_eq_none]
  exact fun none => room (freeSlot_eq_none.1 none)

/-! ### The checks (R31 to R34) -/

/-- A request that passes the eight checks is admitted. -/
theorem acquire_of_admissible {s : State} {c : Slot} {zs : List ZoneId} {requested term : Half} (h : Admissible s c zs requested term)
    (joined : s.ct[c].state = .joined) (tag : Byte) (wait : Bool) :
    s.acquire c tag wait requested (zoneBytes zs) = s.grantOrWait c tag wait term zs := by
  obtain ⟨⟨inService, -, some, few, distinct, enabled⟩, permitted, ⟨m, bound, resolves⟩, apart, noEntry, room⟩ := h
  rw [acquire_of_named inService joined some few distinct enabled]
  refine acquireZones_of_passed ⟨permitted, fun z hz => ?_, ?_, room⟩ ?_ tag wait
  · exact clientHoldsZone_of_not (apart z hz)
  · exact entryOf_eq_none.2 fun e he client => noEntry ⟨e, he, client⟩
  · rw [boundingTerm_eq bound]
    exact resolveTerm_eq_some.2 resolves

theorem find_of_firstZone {zs : List ZoneId} {p : ZoneId → Prop} {q : ZoneId → Bool} (same : ∀ z, q z = true ↔ p z) {z : ZoneId}
    (h : FirstZone zs p z) : zs.find? q = some z := by
  obtain ⟨l, r, rfl, first, before⟩ := h
  exact List.find?_eq_some_iff_append.2 ⟨(same z).2 first, l, r, rfl, fun y hy => by simpa using mt (same y).1 (before y hy)⟩

theorem notPermitted_iff {s : State} {c : Slot} (z : ZoneId) :
    (!s.cu.catalogue.clients[c].permissions.getLsbD s.cu.catalogue.zones[z].cls.val) = true ↔ ¬ Permitted s c z := by
  rw [Bool.not_eq_true', Bool.eq_false_iff]

theorem acquireZones_notPermitted {s : State} {c : Slot} {zs : List ZoneId} {z : ZoneId}
    (first : FirstZone zs (fun y => ¬ Permitted s c y) z) (tag : Byte) (wait : Bool) (term : Half) :
    s.acquireZones c tag wait term zs = (s, .notPermitted z) := by
  simp only [State.acquireZones, find_of_firstZone notPermitted_iff first]

/-- What stands behind check 4. -/
theorem acquireZones_of_permitted {s : State} {c : Slot} {zs : List ZoneId} (permitted : ∀ z ∈ zs, Permitted s c z) (tag : Byte)
    (wait : Bool) (term : Half) {m : Half} (bound : IsBoundingTerm s zs m) :
    (m.toNat < term.toNat → s.acquireZones c tag wait term zs = (s, .termRange m)) ∧
    (term.toNat ≤ m.toNat →
      (∀ z, FirstZone zs (Holds s c) z → s.acquireZones c tag wait term zs = (s, .alreadyHeld z)) ∧
      ((∀ z ∈ zs, ¬ Holds s c z) →
        (Waits s c → s.acquireZones c tag wait term zs = (s, .pendingExists)) ∧
        (¬ Waits s c → s.cu.catalogue.clients[c].bundleLimit ≤ bundleCount s c →
          s.acquireZones c tag wait term zs = (s, .clientLimit)))) := by
  have check4 : (zs.find? fun z => !s.cu.catalogue.clients[c].permissions.getLsbD s.cu.catalogue.zones[z].cls.val) = none :=
    List.find?_eq_none.2 fun z hz => by rw [permitted z hz]; decide
  refine ⟨fun long => ?_, fun short => ?_⟩
  · simp only [State.acquireZones, check4, boundingTerm_eq bound, resolveTerm_eq_none.2 long]
  · obtain ⟨resolved, check5⟩ : ∃ resolved, resolveTerm m term = some resolved := by
      cases check : resolveTerm m term with
      | none => exact absurd (resolveTerm_eq_none.1 check) (by omega)
      | some resolved => exact ⟨resolved, rfl⟩
    refine ⟨fun z first => ?_, fun apart => ?_⟩
    · have check6 : (zs.find? fun z => s.clientHoldsZone c z) = some z := find_of_firstZone (fun _ => clientHoldsZone_iff) first
      simp only [State.acquireZones, check4, boundingTerm_eq bound, check5, check6]
    · have check6 : (zs.find? fun z => s.clientHoldsZone c z) = none :=
        List.find?_eq_none.2 fun z hz => by rw [clientHoldsZone_of_not (apart z hz)]; decide
      refine ⟨fun waits => ?_, fun noEntry full => ?_⟩
      · simp only [State.acquireZones, check4, boundingTerm_eq bound, check5, check6]
        exact if_pos (entryOf_isSome_iff.2 waits)
      · simp only [State.acquireZones, check4, boundingTerm_eq bound, check5, check6]
        exact (if_neg (mt entryOf_isSome_iff.1 noEntry)).trans (if_pos full)

theorem acquire_malformed {s : State} {c : Slot} {bytes : List Byte} (served : s.inService = true) (joined : s.ct[c].state = .joined)
    (few : bytes.length ≤ 6) (bad : bytes = [] ∨ ¬ bytes.Nodup) (tag : Byte) (wait : Bool) (term : Half) :
    s.acquire c tag wait term bytes = (s, .malformed) := by
  rw [State.acquire, if_neg (Nat.not_lt.2 few), if_neg (by rw [served]; decide), if_neg (not_not.2 joined), if_pos bad]

theorem enabledZoneByte_eq_false {s : State} {bad : Byte}
    (h : 128 ≤ bad.toNat ∨ ∃ z : ZoneId, bad = BitVec.ofNat 8 z.val ∧ s.cu.catalogue.zones[z].enabled = false) :
    s.enabledZoneByte bad = false := by
  obtain high | ⟨z, rfl, off⟩ := h
  · rw [State.enabledZoneByte, zoneOfByte_none high]
  · rw [enabledZoneByte_val, off]

theorem acquire_badZone {s : State} {c : Slot} {zs : List ZoneId} {bad : Byte} {rest : List Byte} (served : s.inService = true)
    (joined : s.ct[c].state = .joined) (few : (zoneBytes zs ++ bad :: rest).length ≤ 6) (distinct : (zoneBytes zs ++ bad :: rest).Nodup)
    (enabled : ∀ z ∈ zs, s.cu.catalogue.zones[z].enabled = true) (off : s.enabledZoneByte bad = false) (tag : Byte) (wait : Bool)
    (term : Half) : s.acquire c tag wait term (zoneBytes zs ++ bad :: rest) = (s, .badZone bad) := by
  have found : (zoneBytes zs ++ bad :: rest).find? (fun b => !s.enabledZoneByte b) = some bad := by
    refine List.find?_eq_some_iff_append.2 ⟨by rw [off]; rfl, zoneBytes zs, rest, rfl, fun b hb => ?_⟩
    obtain ⟨z, hz, rfl⟩ := List.mem_map.1 hb
    rw [enabledZoneByte_val, enabled z hz]
    rfl
  rw [State.acquire, if_neg (Nat.not_lt.2 few), if_neg (by rw [served]; decide), if_neg (not_not.2 joined), if_neg, found]
  rintro (none | twice)
  · exact absurd none (by simp)
  · exact twice distinct

/-! ### The conditions of the statements after the reply has been heard -/

theorem admissible_heard {s : State} {x : Exchange} {zs : List ZoneId} {requested term : Half}
    (h : Admissible s x.target zs requested term) (ack : Option Byte) : Admissible (heard s x ack) x.target zs requested term := by
  obtain ⟨⟨inService, present, list⟩, rest⟩ := h
  refine ⟨⟨(heard_inService s x ack).trans inService, .inl (heard_joined present ack), ?_⟩, ?_⟩
  · simpa only [heard_cu] using list
  · simpa only [Permitted, IsBoundingTerm, Holds, Waits, bundleCount, heldBy, heard_cu, heard_ge] using rest

theorem grantedInto_heard {s : State} {zs : List ZoneId} {b : BundleId} (h : GrantedInto s zs b) (x : Exchange) (ack : Option Byte) :
    GrantedInto (heard s x ack) zs b := by
  simpa only [GrantedInto, Available, Named, LowestEmpty, heard_mc, heard_cu, heard_ge] using h

theorem notGranted_heard {s : State} {zs : List ZoneId} (h : NotGranted s zs) (x : Exchange) (ack : Option Byte) :
    NotGranted (heard s x ack) zs := by
  simpa only [NotGranted, Available, Named, TableFull, heard_mc, heard_cu, heard_ge] using h

theorem heard_nextToken (s : State) (x : Exchange) (ack : Option Byte) : (heard s x ack).nextToken = s.nextToken := by
  have live : (heard s x ack).tokenLive = s.tokenLive := funext fun token => by rw [State.tokenLive, State.tokenLive, heard_ge]
  rw [State.nextToken, State.nextToken, live, heard_ge]

theorem blocked_heard {s : State} {zs : List ZoneId} (x : Exchange) (ack : Option Byte) :
    (∃ z ∈ zs, ¬ Available (heard s x ack) z ∨ Named (heard s x ack) z) ↔ ∃ z ∈ zs, ¬ Available s z ∨ Named s z := by
  simp only [Available, Named, heard_cu, heard_ge]

theorem tableFull_heard {s : State} (x : Exchange) (ack : Option Byte) : TableFull (heard s x ack) ↔ TableFull s := by
  simp only [TableFull, heard_ge]

theorem holds_heard {s : State} (x : Exchange) (ack : Option Byte) (c : Slot) : Holds (heard s x ack) c = Holds s c := by
  funext z
  simp only [Holds, heard_ge]

theorem reaches_heard {s : State} (x : Exchange) (ack : Option Byte) {c : Slot} {zs : List ZoneId} :
    Reaches (heard s x ack) c zs ↔ Reaches s c zs := by
  have edge : WaitEdge (heard s x ack) = WaitEdge s := by
    funext c d
    simp only [WaitEdge, EdgeTo, heard_cu, heard_ge]
  simp only [Reaches, edge, EdgeTo, heard_cu, heard_ge]

/-! ### The obligations -/

/-- Settles O27, from the eight checks and the grant at once. -/
theorem acquireGrantsAtOnce : Obligations.AcquireGrantsAtOnce := by
  unfold Obligations.AcquireGrantsAtOnce
  intro s x w d seq ack tag wait requested term zs b awaits new admissible granted
  have joined := heard_joined admissible.1.2.1 ack
  refine exec_new (req := .acquire tag wait requested (zoneBytes zs)) awaits new ?_
  have answer := grantOrWait_of_granted (grantedInto_heard granted x ack) x.target tag wait term
  rw [← acquire_of_admissible (admissible_heard admissible ack) joined, heard_nextToken, deadlineLow, heard_lt] at answer
  exact answer

/-- Settles O28, from the admission without a grant. -/
theorem acquireWaitsOrIsTurnedAway : Obligations.AcquireWaitsOrIsTurnedAway := by
  unfold Obligations.AcquireWaitsOrIsTurnedAway
  intro s x w d seq ack tag requested term zs awaits new admissible notGranted row blocked
  have joined := heard_joined admissible.1.2.1 ack
  have none := notGranted_heard notGranted x ack
  have admitted := acquire_of_admissible (admissible_heard admissible ack) joined tag
  have turnedAway {a : Answer} (h : (heard s x ack).noWaitAnswer zs = a) : exec (row false) s = .next (refusedBy s x ack seq a) :=
    exec_new (req := .acquire tag false requested (zoneBytes zs)) awaits new
      ((admitted false).trans ((grantOrWait_of_noWait none x.target tag term).trans (by rw [h])))
  have waits {t : State} {a : Answer} (h : (heard s x ack).wait x.target tag term zs = (t, a)) :
      exec (row true) s = .next (answering t x seq a) :=
    exec_new (req := .acquire tag true requested (zoneBytes zs)) awaits new
      ((admitted true).trans ((grantOrWait_of_wait none x.target tag term).trans h))
  refine ⟨fun h => ?_, fun free full => ?_, fun free room => ?_, fun reaches => ?_, fun reaches => ?_⟩
  · exact turnedAway (noWaitAnswer_of_blocked ((blocked_heard x ack).2 h))
  · exact turnedAway (noWaitAnswer_of_full (mt (blocked_heard x ack).1 free) ((tableFull_heard x ack).2 full))
  · exact turnedAway (noWaitAnswer_of_holding (mt (blocked_heard x ack).1 free) (mt (tableFull_heard x ack).1 room))
  · exact waits (if_pos (wouldDeadlock_iff.2 ((reaches_heard x ack).2 reaches)))
  · have queued := waits (if_neg (mt (fun h => (reaches_heard x ack).1 (wouldDeadlock_iff.1 h)) reaches))
    simp only [State.enqueueEntry, heard_ge, heard_lt] at queued
    simp only [heard_ge, heard_lt]
    exact queued

/-- Settles O29, check by check. -/
theorem acquireChecksRefuseInOrder : Obligations.AcquireChecksRefuseInOrder := by
  unfold Obligations.AcquireChecksRefuseInOrder
  intro s x w d seq ack tag wait requested asks c refused
  obtain ⟨awaits, inService, present, new⟩ := asks
  have served := (heard_inService s x ack).trans inService
  have joined := heard_joined present ack
  have refuses {bytes : List Byte} {a : Answer}
      (h : (heard s x ack).acquire x.target tag wait requested bytes = (heard s x ack, a)) : refused bytes a :=
    exec_new (req := .acquire tag wait requested bytes) awaits new h
  refine ⟨fun bytes few bad => refuses (acquire_malformed served joined few bad tag wait requested),
    fun zs bad rest few distinct enabled off => refuses ?_, fun zs named => ?_⟩
  · refine acquire_badZone served joined few distinct ?_ (enabledZoneByte_eq_false ?_) tag wait requested
    · rw [heard_cu]
      exact enabled
    · rw [heard_cu]
      exact off
  · obtain ⟨-, -, some, few, distinct, enabled⟩ := named
    have named := acquire_of_named served joined some few distinct (by rw [heard_cu]; exact enabled) tag wait requested
    refine ⟨fun z first => refuses (named.trans (acquireZones_notPermitted ?_ tag wait requested)), fun permitted m bound => ?_⟩
    · simpa only [Permitted, heard_cu] using first
    · obtain ⟨long, short⟩ := acquireZones_of_permitted (s := heard s x ack) (c := x.target) (zs := zs)
        (by simpa only [Permitted, heard_cu] using permitted) tag wait requested (m := m) (by simpa only [IsBoundingTerm, heard_cu] using bound)
      rw [holds_heard] at short
      simp only [Waits, bundleCount, heldBy, heard_cu, heard_ge] at short
      refine ⟨fun h => refuses (named.trans (long h)), fun h => ?_⟩
      obtain ⟨held, free⟩ := short h
      refine ⟨fun z first => refuses (named.trans (held z first)), fun apart => ?_⟩
      obtain ⟨waiting, limit⟩ := free apart
      exact ⟨fun waits => refuses (named.trans (waiting waits)), fun noEntry full => refuses (named.trans (limit noEntry full))⟩

end Sys2Proof.Machine

/-! CANCEL, RENEW, RELEASE and STATUS (O31, O32, O33, O34). -/

namespace Sys2Proof.Machine

open Sys2Proof.Claim Sys2Proof.Safety

/-! ### CANCEL (R57) -/

theorem cancel_of_entry {s : State} {c : Slot} (served : s.inService = true) (joined : s.ct[c].state = .joined) {e : Entry}
    (entry : s.entryOf c = some e) (tag : Byte) :
    s.cancel c tag = if e.tag = tag then ((s.removeEntry c).requestScan, .cancelled) else (s, .notFound) := by
  rw [State.cancel, if_neg (by rw [served]; decide), if_neg (not_not.2 joined), entry]

theorem cancel_of_none {s : State} {c : Slot} (served : s.inService = true) (joined : s.ct[c].state = .joined)
    (entry : s.entryOf c = none) (tag : Byte) : s.cancel c tag = (s, .notFound) := by
  rw [State.cancel, if_neg (by rw [served]; decide), if_neg (not_not.2 joined), entry]

/-- Settles O31, from CANCEL with an entry and without. -/
theorem cancelRemovesEntry : Obligations.CancelRemovesEntry := by
  unfold Obligations.CancelRemovesEntry
  intro s x w d seq ack tag asks
  obtain ⟨awaits, inService, present, new⟩ := asks
  have served := (heard_inService s x ack).trans inService
  have joined := heard_joined present ack
  have entry {e : Option Entry} (h : entryFor s x.target = e) : (heard s x ack).entryOf x.target = e := by
    rw [heard_entryOf, entryOf_eq_entryFor, h]
  refine ⟨fun e waits same => ?_, fun e waits other => ?_, fun none => ?_⟩
  · have cancelled := cancel_of_entry served joined (entry waits) tag
    rw [if_pos same, removeEntry_eq_entryGone, entryGone, heard_ge] at cancelled
    exact exec_new (req := .cancel tag) awaits new cancelled
  · exact exec_new (req := .cancel tag) awaits new ((cancel_of_entry served joined (entry waits) tag).trans (if_neg other))
  · refine exec_new (req := .cancel tag) awaits new (cancel_of_none served joined ?_ tag)
    rw [heard_entryOf]
    exact entryOf_eq_none.2 fun e he client => none ⟨e, he, client⟩

/-! ### RENEW (R74 to R76) -/

theorem reschedule_eq_rescheduled (s : State) (b : BundleId) (y : Bundle) : s.reschedule b y = rescheduled s b y := rfl

theorem bumpRenews_eq (n : Byte) : bumpRenews n = BitVec.ofNat 8 (min (n.toNat + 1) 255) := by
  have small := n.isLt
  unfold bumpRenews
  split
  · next top => rw [top]; rfl
  · next other =>
    have less : n.toNat ≠ 255 := fun same => other (BitVec.eq_of_toNat_eq same)
    refine BitVec.eq_of_toNat_eq ?_
    rw [BitVec.toNat_add, BitVec.toNat_ofNat, Nat.min_eq_left (by omega)]
    rfl

/-- The least of some numbers is above `n` exactly when every one is. -/
theorem foldl_least_above {f : Option Nat → Nat → Option Nat} (first : ∀ k, f none k = some k)
    (more : ∀ k l, f (some k) l = some (min k l)) (n : Nat) (l : List Nat) : ∀ o : Option Nat,
    (∀ k, l.foldl f o = some k → n < k) ↔ (∀ k, o = some k → n < k) ∧ ∀ k ∈ l, n < k := by
  induction l with
  | nil => simp
  | cons a l ih =>
    intro o
    rw [List.foldl_cons, ih, List.forall_mem_cons, ← and_assoc]
    refine and_congr_left fun _ => ?_
    cases o with
    | none => simp [first]
    | some k => simp [more]

theorem renewalAdmitted_iff {s : State} {zs : List ZoneId} {n : Byte} :
    (∀ l, renewalLimit s.cu.catalogue zs = some l → n.toNat < l) ↔ RenewalAdmitted s zs n := by
  unfold renewalLimit
  rw [foldl_least_above (fun _ => rfl) (fun _ _ => rfl)]
  simp only [reduceCtorEq, false_implies, implies_true, true_and, List.mem_filter, List.mem_map, Bool.not_eq_true', beq_eq_false_iff_ne,
    RenewalAdmitted]
  constructor
  · intro h z hz
    by_cases zero : s.cu.catalogue.zones[z].renewalLimit = 0#8
    · exact .inl zero
    · exact .inr (h _ ⟨⟨z, hz, rfl⟩, fun same => zero (BitVec.eq_of_toNat_eq same)⟩)
  · rintro h _ ⟨⟨z, hz, rfl⟩, nonzero⟩
    obtain zero | less := h z hz
    · exact absurd (congrArg BitVec.toNat zero) nonzero
    · exact less

/-- A renewal of a bundle of the client under its token. -/
theorem renew_of_owned {s : State} {c : Slot} {bundle : Byte} {token : Half} {b : BundleId} {y : Bundle}
    (owned : s.ownedBundle c bundle token = .ok (b, y)) {m requested : Half} (bound : IsBoundingTerm s y.zones m) :
    (m.toNat < requested.toNat → s.renew c bundle token requested = (s, .termRange m)) ∧
    (∀ term, ResolvesTo m requested term →
      (RenewalAdmitted s y.zones y.renews → s.renew c bundle token requested =
        (s.reschedule b { y with term := term, deadline := s.lt.clock + term.zeroExtend 32, renews := bumpRenews y.renews },
          .renewed (lowHalf (s.lt.clock + term.zeroExtend 32)) (bumpRenews y.renews))) ∧
      (¬ RenewalAdmitted s y.zones y.renews → s.renew c bundle token requested = (s, .limit y.renews))) := by
  refine ⟨fun long => ?_, fun term resolves => ?_⟩
  · simp only [State.renew, owned, boundingTerm_eq bound, resolveTerm_eq_none.2 long]
  · have resolved := resolveTerm_eq_some.2 resolves
    rw [← renewalAdmitted_iff]
    cases limit : renewalLimit s.cu.catalogue y.zones with
    | none =>
      refine ⟨fun _ => ?_, fun bad => absurd (fun l h => absurd h (by simp)) bad⟩
      simp only [State.renew, owned, boundingTerm_eq bound, resolved, limit, if_true]
    | some l =>
      simp only [Option.some.injEq, forall_eq']
      refine ⟨fun below => ?_, fun above => ?_⟩
      · simp only [State.renew, owned, boundingTerm_eq bound, resolved, limit, below, decide_true, if_true]
      · simp only [State.renew, owned, boundingTerm_eq bound, resolved, limit, above, decide_false]
        exact if_neg Bool.false_ne_true

/-- The bundle that a request presents, after the reply has been heard. -/
theorem ownedBundle_presented {s : State} {x : Exchange} {b : BundleId} {y : Bundle} {token : Half} (h : Presents s x.target b y token)
    (ack : Option Byte) : (heard s x ack).ownedBundle x.target (bundleByte b) token = .ok (b, y) := by
  obtain ⟨inService, present, live, holder, same⟩ := h
  rw [ownedBundle_own ((heard_inService s x ack).trans inService) (heard_joined present ack) ((heard_ge s x ack).symm ▸ live) holder,
    if_neg (not_not.2 same)]

/-- Settles O32, from a renewal under the token. -/
theorem renewSetsDeadline : Obligations.RenewSetsDeadline := by
  unfold Obligations.RenewSetsDeadline
  intro s x w d seq ack b y token requested m asks presents bound row renews
  obtain ⟨awaits, -, -, new⟩ := asks
  have bound' : IsBoundingTerm (heard s x ack) y.zones m := by simpa only [IsBoundingTerm, heard_cu] using bound
  obtain ⟨long, short⟩ := renew_of_owned (ownedBundle_presented presents ack) (requested := requested) bound'
  simp only [RenewalAdmitted, heard_cu, heard_lt, bumpRenews_eq] at short
  have run {t : State} {a : Answer} (h : (heard s x ack).renew x.target (bundleByte b) token requested = (t, a)) :
      exec row s = .next (answering t x seq a) := exec_new (req := .renew (bundleByte b) token requested) awaits new h
  refine ⟨fun term resolves admitted => run ((short term resolves).1 admitted), fun above => run (long above), fun below spent => ?_⟩
  obtain ⟨term, resolves⟩ : ∃ term, ResolvesTo m requested term := by
    by_cases zero : requested = 0#16
    · exact ⟨m, .inl ⟨zero, rfl⟩⟩
    · exact ⟨requested, .inr ⟨zero, below, rfl⟩⟩
  exact run ((short term resolves).2 spent)

/-! ### RELEASE (R38, R39) -/

theorem release_of_owned {s : State} {c : Slot} {bundle : Byte} {token : Half} {b : BundleId} {y : Bundle}
    (owned : s.ownedBundle c bundle token = .ok (b, y)) {zone : Byte} {given : List ZoneId} (some : releasedZones y zone = some given) :
    s.release c bundle token zone =
      ((s.giveUpZones b y given).requestScan, .released (y.zones.filter fun z => !decide (z ∈ given)).length) := by
  simp only [State.release, owned, some]

theorem release_of_not_held {s : State} {c : Slot} {bundle : Byte} {token : Half} {b : BundleId} {y : Bundle}
    (owned : s.ownedBundle c bundle token = .ok (b, y)) {zone : Byte} (none : releasedZones y zone = none) :
    s.release c bundle token zone = (s, .notHeld) := by
  simp only [State.release, owned, none]

theorem releasedZones_all (y : Bundle) : releasedZones y 0xFF#8 = some y.zones := if_pos rfl

theorem zoneByte_ne_all (z : ZoneId) : BitVec.ofNat 8 z.val ≠ 0xFF#8 := fun same => by
  have value := congrArg BitVec.toNat same
  rw [BitVec.toNat_ofNat, BitVec.toNat_ofNat] at value
  omega

theorem releasedZones_one {y : Bundle} {z : ZoneId} (held : z ∈ y.zones) : releasedZones y (BitVec.ofNat 8 z.val) = some [z] := by
  rw [releasedZones, if_neg (zoneByte_ne_all z), zoneOfByte_val]
  exact if_pos held

theorem releasedZones_none {y : Bundle} {zone : Byte} (one : zone ≠ 0xFF#8) (held : ∀ z ∈ y.zones, zone ≠ BitVec.ofNat 8 z.val) :
    releasedZones y zone = none := by
  rw [releasedZones, if_neg one]
  cases named : zoneOfByte zone with
  | none => rfl
  | some z => exact if_neg fun mem => held z mem (zoneOfByte_eq_some.1 named)

theorem left_of_all (zs : List ZoneId) : (zs.filter fun z => !decide (z ∈ zs)) = [] :=
  List.filter_eq_nil_iff.2 fun z hz => by simp [hz]

theorem left_of_one {zs : List ZoneId} {z : ZoneId} (distinct : zs.Nodup) (held : z ∈ zs) :
    (zs.filter fun y => !decide (y ∈ [z])).length = zs.length - 1 := by
  rw [← List.length_erase_of_mem held, distinct.erase_eq_filter]
  refine congrArg List.length (List.filter_congr fun y _ => ?_)
  simp [bne, beq_eq_decide]

/-- Settles O33, by the zones that are given up. -/
theorem releaseGivesUpZones : Obligations.ReleaseGivesUpZones := by
  unfold Obligations.ReleaseGivesUpZones
  intro s x w d seq ack b y token asks presents row
  obtain ⟨awaits, -, -, new⟩ := asks
  have owned := ownedBundle_presented presents ack
  have run {zone : Byte} {t : State} {a : Answer} (h : (heard s x ack).release x.target (bundleByte b) token zone = (t, a)) :
      exec (row zone) s = .next (answering t x seq a) := exec_new (req := .release (bundleByte b) token zone) awaits new h
  refine ⟨?_, fun z held distinct => ?_, fun zone one held => run (release_of_not_held owned (releasedZones_none one held))⟩
  · have released := release_of_owned owned (releasedZones_all y)
    rw [left_of_all] at released
    exact run released
  · have released := release_of_owned owned (releasedZones_one held)
    rw [left_of_one distinct held] at released
    exact run released

/-! ### STATUS (R107) -/

theorem status_eq {s : State} {c : Slot} (served : s.inService = true) (joined : s.ct[c].state = .joined) :
    s.status c = (s, .status ((s.entryOf c).map fun e => e.tag) ((s.bundlesOf c).filterMap s.statusBundle)) :=
  (if_neg (by rw [served]; decide)).trans (if_neg (not_not.2 joined))

theorem lowHalf_remainingTicks (now deadline : Word) : lowHalf (remainingTicks now deadline) =
    if (now - deadline).toNat < 2 ^ 31 then 0#16 else (deadline - now).truncate 16 := by
  unfold remainingTicks
  by_cases passed : hasPassed now deadline = true
  · rw [if_pos passed, if_pos ((hasPassed_iff now deadline).1 passed)]
    rfl
  · rw [if_neg passed, if_neg (mt (hasPassed_iff now deadline).2 passed)]
    rfl

/-- A client's bundles as STATUS reports them. -/
theorem statusBundles_eq (s : State) (c : Slot) {report : BundleId → Option StatusBundle}
    (own : ∀ b y, s.ge.bundles[b] = some y → y.holder = c → report b = s.statusBundle b)
    (other : ∀ b y, s.ge.bundles[b] = some y → y.holder ≠ c → report b = none)
    (empty : ∀ b, s.ge.bundles[b] = none → report b = none) :
    (s.bundlesOf c).filterMap s.statusBundle = (List.finRange 64).filterMap report := by
  rw [State.bundlesOf, List.filterMap_filter]
  refine List.filterMap_congr fun b _ => ?_
  cases live : s.ge.bundles[b] with
  | none => rw [empty b live, if_neg]; exact fun holds => by obtain ⟨y, hy, -⟩ := holdsBundle_iff.1 holds; simp [live] at hy
  | some y =>
    by_cases holder : y.holder = c
    · rw [own b y live holder, if_pos (holdsBundle_iff.2 ⟨y, live, holder⟩)]
    · rw [other b y live holder, if_neg]
      intro holds
      obtain ⟨y', hy', holder'⟩ := holdsBundle_iff.1 holds
      exact holder (Option.some.inj (live.symm.trans hy') ▸ holder')

/-- Settles O34, bundle by bundle. -/
theorem statusReportsLeases : Obligations.StatusReportsLeases := by
  unfold Obligations.StatusReportsLeases
  intro s x w d seq ack asks
  obtain ⟨awaits, inService, present, new⟩ := asks
  refine exec_new (req := .status) awaits new ((status_eq ((heard_inService s x ack).trans inService) (heard_joined present ack)).trans ?_)
  rw [heard_entryOf, entryOf_eq_entryFor]
  congr 2
  refine statusBundles_eq (heard s x ack) x.target (fun b y live holder => ?_) (fun b y live other => ?_) fun b empty => ?_
  · have here : s.ge.bundles[b] = some y := by rwa [heard_ge] at live
    rw [State.statusBundle, live, here, heard_lt]
    dsimp only
    rw [if_pos holder, ← lowHalf_remainingTicks]
    rfl
  · rw [heard_ge] at live
    rw [live]
    exact if_neg other
  · rw [heard_ge] at empty
    rw [empty]

end Sys2Proof.Machine

/-! A client falls silent, and its bundles are cut (O21). -/

namespace Sys2Proof.Machine

open Sys2Proof.Claim Sys2Proof.Safety

/-! ### The cut of one bundle (R78) -/

/-- The deadline that the silence cut sets. -/
abbrev cutDeadline (s : State) : Word := s.lt.clock + s.cu.catalogue.params.silenceGrace.zeroExtend 32

/-- The deadline lies later than the cut and has not passed. -/
abbrev CutDue (s : State) (d : Word) : Prop :=
  2 ^ 31 ≤ (s.lt.clock - d).toNat ∧ 1 ≤ (d - cutDeadline s).toNat ∧ (d - cutDeadline s).toNat < 2 ^ 31

theorem cutDue_iff {s : State} {d : Word} : (isEarlier (cutDeadline s) d && !hasPassed s.lt.clock d) = true ↔ CutDue s d := by
  simp only [isEarlier, hasPassed, Bool.and_eq_true, decide_eq_true_eq, Bool.not_eq_true', decide_eq_false_iff_not, CutDue]
  generalize (d - cutDeadline s).toNat = later
  generalize (s.lt.clock - d).toNat = passed
  omega

theorem cutBundle_of_due {u : State} {b : BundleId} {y : Bundle} (live : u.ge.bundles[b] = some y) (due : CutDue u y.deadline) :
    u.cutBundle b = u.reschedule b { y with deadline := cutDeadline u } := by
  simp only [State.cutBundle, live]
  exact if_pos (cutDue_iff.2 due)

theorem cutBundle_of_not_due {u : State} {b : BundleId} {y : Bundle} (live : u.ge.bundles[b] = some y) (due : ¬ CutDue u y.deadline) :
    u.cutBundle b = u := by
  simp only [State.cutBundle, live]
  exact if_neg (mt cutDue_iff.1 due)

/-! ### The cut of a list of bundles -/

/-- The bundles in `done` have been cut, and nothing else has changed. -/
structure CutUpTo (s : State) (done : List BundleId) (u : State) : Prop where
  rest : u = { s with ge := { s.ge with bundles := u.ge.bundles }, lt := { s.lt with queue := u.lt.queue } }
  queue : u.lt.queue.Perm s.lt.queue
  others : ∀ b ∉ done, u.ge.bundles[b] = s.ge.bundles[b]
  cut : ∀ b ∈ done, ∀ y, s.ge.bundles[b] = some y → CutDue s y.deadline → u.ge.bundles[b] = some { y with deadline := cutDeadline s }
  kept : ∀ b ∈ done, ∀ y, s.ge.bundles[b] = some y → ¬ CutDue s y.deadline → u.ge.bundles[b] = some y

theorem cutUpTo_nil (s : State) : CutUpTo s [] s :=
  ⟨rfl, .refl _, fun _ _ => rfl, fun _ h => absurd h (by simp), fun _ h => absurd h (by simp)⟩

theorem CutUpTo.deadline {s u : State} {done : List BundleId} (h : CutUpTo s done u) : u.lt.clock = s.lt.clock ∧ cutDeadline u = cutDeadline s := by
  have rest := h.rest
  exact ⟨by rw [rest], by rw [cutDeadline, rest]⟩

theorem CutUpTo.due {s u : State} {done : List BundleId} (h : CutUpTo s done u) (d : Word) : CutDue u d ↔ CutDue s d := by
  obtain ⟨clock, cut⟩ := h.deadline
  rw [CutDue, clock, cut]

/-- One bundle more has been cut. -/
theorem CutUpTo.next {s u : State} {done : List BundleId} (h : CutUpTo s done u) (queue : QueueHoldsBundles s) {b : BundleId}
    (new : b ∉ done) {y : Bundle} (live : s.ge.bundles[b] = some y) : CutUpTo s (b :: done) (u.cutBundle b) := by
  have here : u.ge.bundles[b] = some y := (h.others b new).trans live
  have notNew {d : BundleId} : d ∈ done → d ≠ b := fun mem same => new (same ▸ mem)
  by_cases due : CutDue s y.deadline
  · rw [cutBundle_of_due here ((h.due _).2 due), h.deadline.2]
    have table (d : BundleId) : (u.reschedule b { y with deadline := cutDeadline s }).ge.bundles[d] =
        if d = b then some { y with deadline := cutDeadline s } else u.ge.bundles[d] := vector_get_set _ _ _ _
    have stands : b ∈ u.lt.queue := h.queue.mem_iff.2 ((queue.2 b).2 (by rw [live]; rfl))
    refine ⟨?_, ?_, fun d hd => ?_, fun d hd z hz later => ?_, fun d hd z hz early => ?_⟩
    · have rest := h.rest
      generalize u.ge.bundles = bundles, u.lt.queue = q at rest
      rw [rest]
      rfl
    · refine (insertByDeadline_perm _ b _).trans ((List.perm_cons_erase stands).symm.trans h.queue)
    · obtain ⟨other, out⟩ := List.ne_and_not_mem_of_not_mem_cons hd
      rw [table, if_neg other, h.others d out]
    · rw [table]
      split
      · next same =>
        subst same
        rw [Option.some.inj (live.symm.trans hz)]
      · next other => exact h.cut d ((List.mem_cons.1 hd).resolve_left other) z hz later
    · rw [table]
      split
      · next same =>
        subst same
        obtain rfl := Option.some.inj (live.symm.trans hz)
        exact absurd due early
      · next other => exact h.kept d ((List.mem_cons.1 hd).resolve_left other) z hz early
  · rw [cutBundle_of_not_due here (mt (h.due _).1 due)]
    refine ⟨h.rest, h.queue, fun d hd => h.others d (List.ne_and_not_mem_of_not_mem_cons hd).2, fun d hd z hz later => ?_,
      fun d hd z hz early => ?_⟩
    · obtain rfl | mem := List.mem_cons.1 hd
      · obtain rfl := Option.some.inj (live.symm.trans hz)
        exact absurd later due
      · exact h.cut d mem z hz later
    · obtain rfl | mem := List.mem_cons.1 hd
      · exact here.trans (live.symm.trans hz)
      · exact h.kept d mem z hz early

/-- The cut of a list of live bundles, bundle by bundle, with any function that cuts as R78 says. -/
theorem cutUpTo_foldl {s : State} (queue : QueueHoldsBundles s) {g : State → BundleId → State} (l : List BundleId) :
    ∀ (done : List BundleId) (u : State), CutUpTo s done u → l.Nodup → (∀ b ∈ l, b ∉ done) →
      (∀ b ∈ l, ∃ y, s.ge.bundles[b] = some y) →
      (∀ (done : List BundleId) (u : State) (b : BundleId), CutUpTo s done u → b ∉ done → b ∈ l → g u b = u.cutBundle b) →
      CutUpTo s (l.reverse ++ done) (l.foldl (fun t b => t.cutBundle b) u) ∧ l.foldl g u = l.foldl (fun t b => t.cutBundle b) u := by
  induction l with
  | nil => exact fun done u h _ _ _ _ => ⟨h, rfl⟩
  | cons b l ih =>
    intro done u h distinct new live same
    obtain ⟨out, distinct⟩ := List.nodup_cons.1 distinct
    obtain ⟨y, hy⟩ := live b List.mem_cons_self
    have next := h.next queue (new b List.mem_cons_self) hy
    obtain ⟨cut, run⟩ := ih (b :: done) (u.cutBundle b) next distinct
      (fun d hd mem => (List.mem_cons.1 mem).elim (fun same => out (same ▸ hd)) (new d (List.mem_cons_of_mem b hd)))
      (fun d hd => live d (List.mem_cons_of_mem b hd)) fun done u d hu hd mem => same done u d hu hd (List.mem_cons_of_mem b mem)
    rw [List.foldl_cons, List.foldl_cons, same done u b h (new b List.mem_cons_self) List.mem_cons_self, List.reverse_cons,
      List.append_assoc]
    exact ⟨cut, run⟩

theorem silenceCut_of_no_bundles {s : State} {c : Slot} (none : s.bundlesOf c = []) : s.silenceCut c = s := by
  rw [State.silenceCut, none]
  rfl

/-! ### The silence (R59, R90) -/

theorem silenceWithdrawal_of_none {s : State} {c : Slot} (none : s.entryOf c = none) : s.silenceWithdrawal c = s := by
  rw [State.silenceWithdrawal, none]

theorem silenceWithdrawal_of_some {s : State} {c : Slot} {e : Entry} (entry : s.entryOf c = some e) :
    s.silenceWithdrawal c = (s.removeEntry c).postNotice c (.withdrawn e.tag .silence) := by
  rw [State.silenceWithdrawal, entry]

theorem fallSilent_quiet {s : State} {c : Slot} (none : s.entryOf c = none) (bundles : s.bundlesOf c = []) :
    s.fallSilent c = (withRecord s c { s.ct[c] with state := .silent }).postAttention (.silent c) := by
  have quiet : ¬ ((s.entryOf c).isSome || !(s.bundlesOf c).isEmpty) = true := by rw [none, bundles]; decide
  have withdrawn : (s.setClient c { s.ct[c] with state := .silent }).silenceWithdrawal c = s.setClient c { s.ct[c] with state := .silent } :=
    silenceWithdrawal_of_none none
  have cut : (s.setClient c { s.ct[c] with state := .silent }).silenceCut c = s.setClient c { s.ct[c] with state := .silent } :=
    silenceCut_of_no_bundles bundles
  simp only [State.fallSilent, if_neg quiet, withdrawn, cut]
  rfl

theorem fallSilent_scanned {s : State} {c : Slot} (some : (s.entryOf c).isSome = true ∨ s.bundlesOf c ≠ []) :
    s.fallSilent c = ((((withRecord s c { s.ct[c] with state := .silent }).silenceWithdrawal c).silenceCut c).postAttention
      (.silent c)).requestScan := by
  have scans : ((s.entryOf c).isSome || !(s.bundlesOf c).isEmpty) = true := by
    obtain entry | bundles := some
    · rw [entry]
      rfl
    · rw [Bool.or_eq_true]
      right
      simpa using bundles
  simp only [State.fallSilent, if_pos scans]
  rfl

/-- Settles O21, from the silence of a client and the cut of its bundles one after another. -/
theorem silenceCutsBundles : Obligations.SilenceCutsBundles := by
  unfold Obligations.SilenceCutsBundles
  refine ⟨fun s c _ => ?silence, fun s c queue => ?cut⟩
  case silence =>
    intro silent
    have none (h : ¬ Waits s c) : s.entryOf c = Option.none := by
      rw [← Option.not_isSome_iff_eq_none]
      exact mt entryOf_isSome_iff.1 h
    refine ⟨fun idle empty => fallSilent_quiet (none idle) (List.length_eq_zero_iff.1 empty), fun idle some => ?_, fun e entry => ?_⟩
    · have withdrawn : silent.silenceWithdrawal c = silent := silenceWithdrawal_of_none (none idle)
      rw [fallSilent_scanned (.inr fun empty => some (congrArg List.length empty))]
      show ((silent.silenceWithdrawal c).silenceCut c |>.postAttention _).requestScan = _
      rw [withdrawn]
    · have waits : s.entryOf c = some e := (entryOf_eq_entryFor s c).trans entry
      have withdrawn : silent.silenceWithdrawal c = (silent.removeEntry c).postNotice c (.withdrawn e.tag .silence) :=
        silenceWithdrawal_of_some waits
      rw [fallSilent_scanned (.inl (by rw [waits]; rfl))]
      show ((silent.silenceWithdrawal c).silenceCut c |>.postAttention _).requestScan = _
      rw [withdrawn, removeEntry_eq_entryGone]
  case cut =>
    intro cut later t
    have holder {b : BundleId} {y : Bundle} (mem : b ∈ s.bundlesOf c) (live : s.ge.bundles[b] = some y) : y.holder = c := by
      obtain ⟨y', hy', holder⟩ := mem_bundlesOf.1 mem
      exact Option.some.inj (hy'.symm.trans live) ▸ holder
    obtain ⟨done, run⟩ := cutUpTo_foldl queue (g := fun u b => match u.ge.bundles[b] with
      | some y => if later y then rescheduled u b { y with deadline := cut } else u
      | none => u) (s.bundlesOf c) [] s (cutUpTo_nil s) (bundlesOf_nodup s c) (fun _ _ => List.not_mem_nil) (fun b hb => by
        obtain ⟨y, hy, -⟩ := mem_bundlesOf.1 hb
        exact ⟨y, hy⟩) (fun done u b hu new mem => by
        obtain ⟨y, hy, own⟩ := mem_bundlesOf.1 mem
        have live := (hu.others b new).trans hy
        rw [live]
        by_cases due : CutDue s y.deadline
        · rw [cutBundle_of_due live ((hu.due _).2 due), hu.deadline.2]
          exact if_pos ⟨own, due⟩
        · rw [cutBundle_of_not_due live (mt (hu.due _).1 due)]
          exact if_neg fun h => due h.2)
    rw [List.append_nil] at done
    refine ⟨done.rest, done.queue, run.symm, fun b => ⟨fun empty => ?_, fun y live => ⟨fun due => ?_, fun early => ?_⟩⟩⟩
    · have out : b ∉ (s.bundlesOf c).reverse := fun mem => by
        obtain ⟨y, hy, -⟩ := mem_bundlesOf.1 (List.mem_reverse.1 mem)
        rw [empty] at hy
        cases hy
      exact (done.others b out).trans empty
    · exact done.cut b (List.mem_reverse.2 (mem_bundlesOf.2 ⟨y, live, due.1⟩)) y live due.2
    · by_cases mem : b ∈ (s.bundlesOf c).reverse
      · exact done.kept b mem y live fun due => early ⟨holder (List.mem_reverse.1 mem) live, due⟩
      · exact (done.others b mem).trans live

end Sys2Proof.Machine

/-! The receiver and the frames it takes (O15, O16). -/

namespace Sys2Proof.Machine

open Sys2Proof.Claim Sys2Proof.Safety

/-! ### The frame CRC (R113) -/

theorem crc16Bits_eq (n : Nat) : ∀ x : Half, crc16Bits n x = crc16Bit^[n] x := by
  induction n with
  | zero => exact fun _ => rfl
  | succ n ih => exact fun x => (ih _).trans (Function.iterate_succ_apply _ _ _).symm

theorem crc16Bit_eq : crc16Bit = fun x : Half => if x.msb then (x <<< 1) ^^^ 0x1021#16 else x <<< 1 := by
  funext x
  rw [crc16Bit, BitVec.msb_eq_getLsbD_last]

theorem byte_shifted (b : Byte) : b.zeroExtend 16 <<< 8 = b ++ 0x00#8 := by
  refine BitVec.eq_of_toNat_eq ?_
  rw [BitVec.toNat_append]
  simp [Nat.shiftLeft_eq, Nat.mod_eq_of_lt (show b.toNat < 65536 from b.isLt.trans (by decide))]
  have := b.isLt
  omega

theorem frameCrc_eq (bytes : List Byte) : frameCrc bytes = crc16 bytes := by
  have step : (fun (reg : Half) (b : Byte) =>
      (fun x : Half => if x.msb then (x <<< 1) ^^^ 0x1021#16 else x <<< 1)^[8] (reg ^^^ (b ++ 0x00#8))) = crc16Byte := by
    funext reg b
    rw [crc16Byte, crc16Bits_eq, crc16Bit_eq, byte_shifted]
  rw [frameCrc, step, crc16]

/-! ### What the receiver does with a character (R114 to R120) -/

theorem listening_iff {r : Receiver} : r.listening = true ↔ r ≠ .off ∧ r ≠ .muted := by
  cases r <;> simp [Receiver.listening]

theorem hears_iff {s : State} : s.hears = true ↔ Listens s := by
  rw [State.hears, Bool.and_eq_true, listening_iff, Bool.not_eq_true']
  exact and_comm

theorem inFrame_iff {s : State} : s.li.receiver.inFrame = true ↔ InFrame s := by
  unfold InFrame
  cases s.li.receiver <;> simp [Receiver.inFrame]

theorem exec_character_of_listens {s : State} (h : Listens s) (mark : Bool) (d : Byte) :
    exec (.characterReceived mark d) s = .next (s.takeCharacter mark d) := if_pos (hears_iff.2 h)

theorem exec_character_of_deaf {s : State} (h : ¬ Listens s) (mark : Bool) (d : Byte) :
    exec (.characterReceived mark d) s = .next s := if_neg (mt hears_iff.1 h)

/-- A character leads to the next receiver state, and then its reports are taken. -/
theorem exec_character {s : State} {r r' : Receiver} {mark : Bool} {d : Byte} {reports : List Report} (h : Listens s)
    (is : s.li.receiver = r) (takes : r.take mark d = (r', reports)) :
    exec (.characterReceived mark d) s = .next ((receiving s r').takeReports reports) := by
  rw [exec_character_of_listens h, State.takeCharacter, is, takes]
  rfl

theorem setReceiver_self {s : State} {r : Receiver} (h : s.li.receiver = r) : s.setReceiver r = s := by
  rw [← h]
  rfl

theorem completeFrame_eq (a k : Byte) (l : List Byte) (high low : Byte) : completeFrame a k l high low =
    if frameCrc (a :: k :: BitVec.ofNat 8 l.length :: l) = high ++ low then
      .delivered { address := a, kind := k, body := l } else .abandoned .crc := by
  rw [frameCrc_eq]
  rfl

theorem takeMarked_of_frame {r : Receiver} (h : r.inFrame = true) (d : Byte) :
    r.take true d = (.headerKind d, [.abandoned .superseded, .frameStart]) := by
  show (Receiver.headerKind d, if r.inFrame then _ else _) = _
  rw [if_pos h]

theorem takeLength_of_long {a k d : Byte} (h : 56 < d.toNat) : (Receiver.headerLength a k).take false d = (.hunt, [.abandoned .length]) :=
  if_pos h

theorem takeLength_zero (a k : Byte) : (Receiver.headerLength a k).take false 0#8 = (.check a k 0#8 [] none, []) := rfl

theorem takeLength_of_short {a k d : Byte} (some : 1 ≤ d.toNat) (h : d.toNat ≤ 56) :
    (Receiver.headerLength a k).take false d = (.body a k d [], []) := by
  refine (if_neg (Nat.not_lt.2 h)).trans (if_neg fun zero => ?_)
  rw [zero] at some
  exact absurd some (by decide)

theorem takeBody (a k n d : Byte) (l : List Byte) : (Receiver.body a k n l).take false d =
    (if l.length + 1 = n.toNat then .check a k n (l ++ [d]) none else .body a k n (l ++ [d]), []) := by
  show (if l.length + 1 = n.toNat then _ else _) = _
  split
  · rfl
  · rfl

/-- Settles O15, state by state of the receiver. -/
theorem receiverFollowsItsTable : Obligations.ReceiverFollowsItsTable := by
  unfold Obligations.ReceiverFollowsItsTable
  refine ⟨fun s d => ⟨fun deaf m => exec_character_of_deaf deaf m d, fun h hunt => ⟨?_, ?_⟩, fun h frame => ?_, fun a h is => ?_,
    fun a k h is => ⟨fun long => ?_, fun zero => ?_, fun some short => ?_⟩, fun a k n l h is => ?_, fun a k n l h is => ?_,
    fun a k n l high h is => ?_⟩, fun s => ⟨fun h hunt => ?_, fun h frame => ?_, fun deaf => ?_, fun frame => ?_, fun out => ?_,
    fun on clear => ?_, fun off => ?_⟩⟩
  · refine (exec_character h hunt rfl).trans (congrArg Host.Outcome.next ?_)
    exact setReceiver_self hunt
  · exact exec_character h hunt rfl
  · exact exec_character h rfl (takeMarked_of_frame (inFrame_iff.2 frame) d)
  · exact exec_character h is rfl
  · exact exec_character h is (takeLength_of_long long)
  · subst zero
    exact exec_character h is (takeLength_zero a k)
  · exact exec_character h is (takeLength_of_short some short)
  · exact exec_character h is (takeBody a k n d l)
  · exact exec_character h is rfl
  · rw [← completeFrame_eq]
    exact exec_character h is rfl
  · have out : ¬ s.li.receiver.inFrame = true := by rw [hunt]; decide
    refine (if_pos (hears_iff.2 h)).trans (congrArg Host.Outcome.next ((if_neg out).trans ?_))
    exact setReceiver_self hunt
  · exact (if_pos (hears_iff.2 h)).trans (congrArg Host.Outcome.next (if_pos (inFrame_iff.2 frame)))
  · exact if_neg (mt hears_iff.1 deaf)
  · exact (if_pos (inFrame_iff.2 frame)).trans (congrArg Host.Outcome.next (if_pos (inFrame_iff.2 frame)))
  · exact if_neg (mt inFrame_iff.1 out)
  · exact if_pos (listening_iff.2 ⟨on, clear⟩)
  · refine if_neg fun on => ?_
    obtain ⟨notOff, notMuted⟩ := listening_iff.1 on
    exact off.elim notOff notMuted

/-! ### A frame received whole (O16) -/

/-- The characters of some bytes of a frame behind its address. -/
abbrev unmarked (bytes : List Byte) : List LineChar := bytes.map fun b => { mark := false, data := b }

/-- The bytes of the body are taken one after the other. -/
theorem receive_body (a k n : Byte) (rest : List Byte) : ∀ (l : List Byte) (reports : List Report), rest ≠ [] →
    l.length + rest.length = n.toNat →
    (unmarked rest).foldl receive (.body a k n l, reports) = (.check a k n (l ++ rest) none, reports) := by
  induction rest with
  | nil => exact fun _ _ none => absurd rfl none
  | cons b rest ih =>
    intro l reports _ length
    rw [List.length_cons] at length
    have step : receive (.body a k n l, reports) { mark := false, data := b } =
        (if l.length + 1 = n.toNat then .check a k n (l ++ [b]) none else .body a k n (l ++ [b]), reports) := by
      show (((Receiver.body a k n l).take false b).1, reports ++ ((Receiver.body a k n l).take false b).2) = _
      rw [takeBody, List.append_nil]
    rw [unmarked, List.map_cons, List.foldl_cons, step]
    cases rest with
    | nil => rw [if_pos (by simpa using length)]; rfl
    | cons b' rest =>
      rw [if_neg (by rw [List.length_cons] at length; omega), ih _ reports (by simp) (by
        rw [List.length_append, List.length_singleton]
        omega), List.append_assoc, List.singleton_append]

/-- The characters of a frame up to its body. -/
theorem receive_front {address kind : Byte} {body : List Byte} (fits : BodyFits body) :
    (unmarked body).foldl receive (receive (receive (receive (.hunt, []) { mark := true, data := address })
      { mark := false, data := kind }) { mark := false, data := numByte body.length }) =
        (.check address kind (numByte body.length) body none, [.frameStart]) := by
  have number : (numByte body.length).toNat = body.length := numByte_toNat (by omega)
  cases body with
  | nil => rfl
  | cons b body =>
    have length : receive (.headerLength address kind, [.frameStart]) { mark := false, data := numByte (b :: body).length } =
        (.body address kind (numByte (b :: body).length) [], [.frameStart]) := by
      show (((Receiver.headerLength address kind).take false _).1, _ ++ ((Receiver.headerLength address kind).take false _).2) = _
      rw [takeLength_of_short (by rw [number]; simp) (by rw [number]; exact fits)]
      rfl
    have front : receive (receive (.hunt, []) { mark := true, data := address }) { mark := false, data := kind } =
        (.headerLength address kind, [.frameStart]) := rfl
    rw [front, length, receive_body _ _ _ _ _ _ (by simp) (by rw [number, List.length_nil, Nat.zero_add]), List.nil_append]

/-- Settles O16, character by character. -/
theorem sentFrameIsReceivedWhole : Obligations.SentFrameIsReceivedWhole := by
  unfold Obligations.SentFrameIsReceivedWhole
  intro address kind body fits
  have good : completeFrame address kind body ((crc16 (frameCrcBytes address kind body) >>> 8).truncate 8)
      ((crc16 (frameCrcBytes address kind body)).truncate 8) = .delivered { address := address, kind := kind, body := body } := by
    rw [completeFrame, halfOf_halfBytes, if_pos rfl]
  have front := receive_front (address := address) (kind := kind) fits
  rw [frameChars, List.map_append, List.map_cons, List.map_cons, List.cons_append, List.cons_append, List.foldl_cons, List.foldl_cons,
    List.foldl_cons, List.foldl_append]
  refine (congrArg (fun p => (unmarked (halfBytes (crc16 (frameCrcBytes address kind body)))).foldl receive p) front).trans ?_
  show (Receiver.hunt, [Report.frameStart] ++ [] ++ [completeFrame address kind body _ _]) = _
  rw [good]
  rfl

end Sys2Proof.Machine

/-! Reports, the deciding frame and its judgement (O17, O18). -/

namespace Sys2Proof.Machine

open Sys2Proof.Claim Sys2Proof.Safety

/-! ### A failed exchange (R89, R135) -/

theorem miss_of_joined {s : State} {c : Slot} (joined : s.ct[c].state = .joined) : s.miss c =
    if s.ct[c].misses + 1 = s.cu.catalogue.params.missLimit then
      (withRecord s c { s.ct[c] with misses := s.ct[c].misses + 1 }).fallSilent c
    else withRecord s c { s.ct[c] with misses := s.ct[c].misses + 1 } := if_pos joined

theorem miss_of_other {s : State} {c : Slot} (other : s.ct[c].state ≠ .joined) : s.miss c = s := if_neg other

theorem failExchange_of_stands {s : State} {x : Exchange} (stands : Stands s x) : s.failExchange x = inGap (s.miss x.target) := by
  rw [State.failExchange, if_pos (exchangeStands_iff.2 stands)]
  rfl

theorem failExchange_of_gone {s : State} {x : Exchange} (gone : ¬ Stands s x) : s.failExchange x = inGap s := by
  rw [State.failExchange, if_neg (mt exchangeStands_iff.1 gone)]
  rfl

theorem failExchange_failedBy (s : State) (x : Exchange) : FailedBy s x (s.failExchange x) where
  counted stands joined below := by rw [failExchange_of_stands stands, miss_of_joined joined, if_neg below]
  limit stands joined reached := by rw [failExchange_of_stands stands, miss_of_joined joined, if_pos reached]
  other stands out := by rw [failExchange_of_stands stands, miss_of_other out]
  gone := failExchange_of_gone

/-! ### Reports (R133, R134, R139) -/

theorem takeReport_outside {s : State} (h : ∀ x w d, s.es.exchange ≠ .awaiting x w d) (r : Report) : s.takeReport r = s := by
  cases exchange : s.es.exchange with
  | gap | polling | answering => rw [State.takeReport, exchange]
  | awaiting x w d => exact absurd exchange (h x w d)

theorem takeReport_before {s : State} {x : Exchange} {w : Nat} (h : s.es.exchange = .awaiting x w false) (r : Report) :
    s.takeReport r = if r = .frameStart then exchanging s (.awaiting x w true) else s := by
  rw [State.takeReport, h]
  cases r with
  | frameStart => rfl
  | delivered | abandoned => exact (if_neg (by simp)).symm

theorem takeReport_frameStart {s : State} {x : Exchange} {w : Nat} (h : s.es.exchange = .awaiting x w true) :
    s.takeReport .frameStart = s := by rw [State.takeReport, h]

theorem takeReport_delivered {s : State} {x : Exchange} {w : Nat} (h : s.es.exchange = .awaiting x w true) (f : Frame) :
    s.takeReport (.delivered f) = s.judgeReply x f := by rw [State.takeReport, h]

theorem takeReport_abandoned {s : State} {x : Exchange} {w : Nat} (h : s.es.exchange = .awaiting x w true) (cause : AbandonCause) :
    s.takeReport (.abandoned cause) = s.failExchange x := by rw [State.takeReport, h]

theorem exec_timeout {s : State} {x : Exchange} {w : Nat} (h : s.es.exchange = .awaiting x w false) :
    exec .replyWindowTimeout s = .next (s.failExchange x) := by
  show execReplyWindowTimeout s = _
  rw [execReplyWindowTimeout, h]

theorem exec_timeout_deciding {s : State} {x : Exchange} {w : Nat} (h : s.es.exchange = .awaiting x w true) :
    exec .replyWindowTimeout s = .next s := by
  show execReplyWindowTimeout s = _
  rw [execReplyWindowTimeout, h]

/-- Settles O17, report by report. -/
theorem exchangeIsDecidedByItsFrame : Obligations.ExchangeIsDecidedByItsFrame := by
  unfold Obligations.ExchangeIsDecidedByItsFrame
  refine ⟨fun _ _ => rfl, fun s r => ⟨fun outside => takeReport_outside outside r, fun x w before => takeReport_before before r,
    fun x w deciding => ⟨?_, ?_⟩⟩, fun s x w => ⟨fun before => ⟨_, exec_timeout before, failExchange_failedBy s x⟩, exec_timeout_deciding⟩⟩
  · rintro rfl
    exact takeReport_frameStart deciding
  · rintro cause rfl
    rw [takeReport_abandoned deciding]
    exact failExchange_failedBy s x

/-! ### What a REQUEST asks (Table 11-5) -/

theorem parseRequest_short_acquire {l : List Byte} (h : l.length < 5) : parseRequest (0x03#8 :: l) = .malformed := by
  match l, h with
  | [], _ | [_], _ | [_, _], _ | [_, _, _], _ | [_, _, _, _], _ => rfl
  | _ :: _ :: _ :: _ :: _ :: l, h => simp at h; omega

theorem parseRequest_acquire (tag w t1 t0 n : Byte) (zones : List Byte) :
    parseRequest (0x03#8 :: tag :: w :: t1 :: t0 :: n :: zones) =
      if n.toNat ≤ 6 ∧ zones.length = n.toNat then .acquire tag (w.getLsbD 0) (t1 ++ t0) zones else .malformed := rfl

theorem parseRequest_join {l : List Byte} (h : l.length ≠ 2) : parseRequest (0x01#8 :: l) = .malformed := by
  match l, h with
  | [], _ | [_], _ => rfl
  | [_, _], h => exact absurd rfl h
  | _ :: _ :: _ :: _, _ => rfl

theorem parseRequest_cancel {l : List Byte} (h : l.length ≠ 1) : parseRequest (0x04#8 :: l) = .malformed := by
  match l, h with
  | [], _ => rfl
  | [_], h => exact absurd rfl h
  | _ :: _ :: _, _ => rfl

theorem parseRequest_renew {l : List Byte} (h : l.length ≠ 5) : parseRequest (0x05#8 :: l) = .malformed := by
  match l, h with
  | [], _ | [_], _ | [_, _], _ | [_, _, _], _ | [_, _, _, _], _ => rfl
  | [_, _, _, _, _], h => exact absurd rfl h
  | _ :: _ :: _ :: _ :: _ :: _ :: _, _ => rfl

theorem parseRequest_release {l : List Byte} (h : l.length ≠ 4) : parseRequest (0x06#8 :: l) = .malformed := by
  match l, h with
  | [], _ | [_], _ | [_, _], _ | [_, _, _], _ => rfl
  | [_, _, _, _], h => exact absurd rfl h
  | _ :: _ :: _ :: _ :: _ :: _, _ => rfl

theorem parseRequest_bare {l : List Byte} (h : l.length ≠ 0) :
    parseRequest (0x02#8 :: l) = .malformed ∧ parseRequest (0x07#8 :: l) = .malformed := by
  have some : ¬ l = [] := fun none => h (congrArg List.length none)
  exact ⟨if_neg some, if_neg some⟩

theorem parseRequest_unknown {k : Byte} (h : k = 0#8 ∨ 7 < k.toNat) (l : List Byte) : parseRequest (k :: l) = .malformed := by
  have other (n : Byte) (low : 1 ≤ n.toNat) (high : n.toNat ≤ 7) : k ≠ n := fun same => by
    subst same
    obtain rfl | above := h
    · exact absurd low (by decide)
    · omega
  simp only [parseRequest, other 0x01#8 (by decide) (by decide), other 0x02#8 (by decide) (by decide), other 0x03#8 (by decide) (by decide),
    other 0x04#8 (by decide) (by decide), other 0x05#8 (by decide) (by decide), other 0x06#8 (by decide) (by decide),
    other 0x07#8 (by decide) (by decide), if_false]

/-! ### The judgement of the deciding frame (Table 7-3) -/

/-- The frame comes from a client at the address of the exchange. -/
abbrev OwnFrame (x : Exchange) (f : Frame) : Prop := f.address.getLsbD 7 = false ∧ (f.address &&& 0x3F#8).toNat = x.address

theorem judgeFrame_of_foreign {x : Exchange} {f : Frame} (h : ¬ OwnFrame x f) : judgeFrame x.address f = none := by
  refine if_pos ?_
  by_cases direction : f.address.getLsbD 7 = false
  · exact .inr fun same => h ⟨direction, same⟩
  · exact .inl (by rw [fromPart]; simpa using direction)

theorem ownFrame_not_foreign {x : Exchange} {f : Frame} (h : OwnFrame x f) :
    ¬ (fromPart f.address = true ∨ addressField f.address ≠ x.address) := by
  obtain ⟨direction, same⟩ := h
  rintro (fromPart | other)
  · exact absurd (fromPart.symm.trans direction) (by simp)
  · exact other same

theorem judgeFrame_idle {x : Exchange} {f : Frame} (own : OwnFrame x f) (kind : f.kind = 0x11#8) :
    (f.body = [] → judgeFrame x.address f = some (.idle none)) ∧ (∀ n, f.body = [n] → judgeFrame x.address f = some (.idle (some n))) ∧
      (2 ≤ f.body.length → judgeFrame x.address f = none) := by
  have first := ownFrame_not_foreign own
  have isIdle : f.kind = kindIdle := kind
  refine ⟨fun body => ?_, fun n body => ?_, fun long => ?_⟩
  · rw [judgeFrame, if_neg first, if_pos isIdle, body]
  · rw [judgeFrame, if_neg first, if_pos isIdle, body]
  · match body : f.body, long with
    | b0 :: b1 :: rest, _ => rw [judgeFrame, if_neg first, if_pos isIdle, body]

theorem judgeFrame_request {x : Exchange} {f : Frame} (own : OwnFrame x f) (kind : f.kind = 0x12#8) :
    (∀ b0 b1 rest, f.body = b0 :: b1 :: rest → judgeFrame x.address f =
      some (.request (b0.truncate 4) (readAck b0 b1) (parseRequest rest))) ∧ (f.body.length < 2 → judgeFrame x.address f = none) := by
  have first := ownFrame_not_foreign own
  have notIdle : ¬ f.kind = kindIdle := by rw [kind]; decide
  have isRequest : f.kind = kindRequest := kind
  refine ⟨fun b0 b1 rest body => ?_, fun short => ?_⟩
  · rw [judgeFrame, if_neg first, if_neg notIdle, if_pos isRequest, body]
  · match body : f.body, short with
    | [], _ => rw [judgeFrame, if_neg first, if_neg notIdle, if_pos isRequest, body]
    | [_], _ => rw [judgeFrame, if_neg first, if_neg notIdle, if_pos isRequest, body]

theorem judgeFrame_other {x : Exchange} {f : Frame} (own : OwnFrame x f) (idle : f.kind ≠ 0x11#8) (request : f.kind ≠ 0x12#8) :
    judgeFrame x.address f = none := (if_neg (ownFrame_not_foreign own)).trans ((if_neg idle).trans (if_neg request))

theorem judgeReply_of_some {s : State} {x : Exchange} {f : Frame} {reply : Reply} (h : judgeFrame x.address f = some reply) :
    s.judgeReply x f = s.takeReply x reply := by rw [State.judgeReply, h]

theorem judgeReply_of_none {s : State} {x : Exchange} {f : Frame} (h : judgeFrame x.address f = none) :
    s.judgeReply x f = s.failExchange x := by rw [State.judgeReply, h]

theorem deliverReply_eq {s : State} {x : Exchange} {w : Nat} {d : Bool} (awaiting : s.es.exchange = .awaiting x w d) (reply : Reply) :
    s.deliverReply reply = State.takeReply { s with li := { s.li with receiver := .hunt, lineHeld := false } } x reply := by
  rw [State.deliverReply, awaiting]

/-- The last character of the deciding frame has it judged. -/
theorem exec_lastCharacter {s : State} {x : Exchange} {w : Nat} {f : Frame} {d : Byte} (awaiting : s.es.exchange = .awaiting x w true)
    (listens : Listens s) (last : LastCharacter s f d) :
    exec (.characterReceived false d) s = .next ((receiving s .hunt).judgeReply x f) := by
  obtain ⟨high, receiver, crc⟩ := last
  have good : completeFrame f.address f.kind f.body high d = .delivered f := by rw [completeFrame_eq, if_pos crc]
  have takes : (Receiver.check f.address f.kind (BitVec.ofNat 8 f.body.length) f.body (some high)).take false d =
      (.hunt, [.delivered f]) := by
    rw [← good]
    rfl
  rw [exec_character listens receiver takes]
  exact congrArg Host.Outcome.next (takeReport_delivered (s := receiving s .hunt) awaiting f)

/-- A valid reply frame is the row of its reply. -/
theorem exec_lastCharacter_reply {s : State} {x : Exchange} {w : Nat} {f : Frame} {d : Byte} {reply : Reply}
    (awaiting : s.es.exchange = .awaiting x w true) (listens : Listens s) (last : LastCharacter s f d)
    (judged : judgeFrame x.address f = some reply) : exec (.characterReceived false d) s = .next (s.deliverReply reply) := by
  have clear : receiving s .hunt = { s with li := { s.li with receiver := .hunt, lineHeld := false } } := by
    rw [← listens.1]
  rw [exec_lastCharacter awaiting listens last, judgeReply_of_some judged, deliverReply_eq awaiting, clear]

/-- Settles O18: the table of requests, and the judgement of the frame. -/
theorem decidingFrameIsJudged : Obligations.DecidingFrameIsJudged := by
  unfold Obligations.DecidingFrameIsJudged
  refine ⟨⟨fun _ _ => rfl, rfl, fun tag w t1 t0 zones few => ?acquire, fun _ => rfl, fun _ _ _ _ _ => rfl, fun _ _ _ _ => rfl, rfl, rfl,
    fun k l unknown => parseRequest_unknown unknown l, fun p hp l length => ?lengths, fun l short => parseRequest_short_acquire short,
    fun tag w t1 t0 n zones bad => ?bad⟩, fun s x w f d awaiting listens last => ?judged⟩
  case acquire =>
    have number : (BitVec.ofNat 8 zones.length).toNat = zones.length := numByte_toNat (by omega)
    rw [parseRequest_acquire, number, if_pos ⟨few, rfl⟩]
  case lengths =>
    simp only [List.mem_cons, List.not_mem_nil, or_false] at hp
    obtain rfl | rfl | rfl | rfl | rfl | rfl := hp
    · exact parseRequest_join length
    · exact (parseRequest_bare length).1
    · exact parseRequest_cancel length
    · exact parseRequest_renew length
    · exact parseRequest_release length
    · exact (parseRequest_bare length).2
  case bad =>
    rw [parseRequest_acquire, if_neg]
    rintro ⟨few, same⟩
    obtain many | other := bad
    · omega
    · exact other same
  case judged =>
    have valid {reply : Reply} := exec_lastCharacter_reply awaiting listens last (reply := reply)
    refine ⟨fun own kind body => valid ((judgeFrame_idle own kind).1 body), fun n own kind body => valid ((judgeFrame_idle own kind).2.1 n body),
      fun b0 b1 rest own kind body => ?_, fun bad => ⟨_, exec_lastCharacter awaiting listens last, ?_⟩⟩
    · rw [exec_requestRow]
      exact valid ((judgeFrame_request own kind).1 b0 b1 rest body)
    · have fails : judgeFrame x.address f = none := by
        by_cases own : OwnFrame x f
        · obtain foreign | ⟨idle, request⟩ | ⟨kind, long⟩ | ⟨kind, short⟩ := bad
          · exact absurd own foreign
          · exact judgeFrame_other own idle request
          · exact (judgeFrame_idle own kind).2.2 long
          · exact (judgeFrame_request own kind).2 short
        · exact judgeFrame_of_foreign own
      rw [judgeReply_of_none fails]
      exact failExchange_failedBy _ x

end Sys2Proof.Machine

/-! Frames from the part: their bytes, whose turn it is, and the end of a transmission (O19, O20). -/

namespace Sys2Proof.Machine

open Sys2Proof.Claim Sys2Proof.Safety

/-! ### The bytes of frames from the part -/

theorem frameChars_eq (address kind : Byte) (body : List Byte) : frameChars address kind body = frameLayout address kind body := by
  rw [frameChars, halfBytes_eq_be16, ← frameCrc_eq]
  rfl

theorem addressByteFromPart_eq {address : Nat} (h : address ≤ 62) : addressByteFromPart address = 0x80#8 ||| BitVec.ofNat 8 address := by
  have same : BitVec.ofNat 8 address &&& 0x3F#8 = BitVec.ofNat 8 address := by
    refine BitVec.eq_of_toNat_eq ?_
    have mask : (0x3F#8).toNat = 2 ^ 6 - 1 := rfl
    rw [BitVec.toNat_and, mask, Nat.and_two_pow_sub_one_eq_mod, BitVec.toNat_ofNat]
    omega
  rw [addressByteFromPart, numByte, same]

theorem markedZoneByte_eq (z : ZoneId × Bool) : markedZoneByte z = BitVec.ofBool z.2 ++ BitVec.ofNat 7 z.1.val := by
  obtain ⟨z, marked⟩ := z
  cases marked with
  | false => revert z; decide
  | true => revert z; decide

theorem noticeBytes_eq (n : Notice) : noticeBytes n = noticeLayout n := by
  obtain ⟨seq, body⟩ := n
  have marked : List.map markedZoneByte = markedBytes := by
    funext zs
    exact List.map_congr_left fun z _ => markedZoneByte_eq z
  cases body with
  | grant tag b token low =>
    simp only [noticeBytes, noticeBodyBytes, halfBytes_eq_be16, noticeLayout]
    rfl
  | lapsed b tag zs =>
    simp only [noticeBytes, noticeBodyBytes, marked, noticeLayout]
    rfl
  | revoked b tag zs =>
    simp only [noticeBytes, noticeBodyBytes, marked, noticeLayout]
    rfl
  | withdrawn tag reason => cases reason <;> rfl
  | resync => rfl

theorem statusBundleBytes_eq (b : StatusBundle) : statusBundleBytes b = statusEntry b := by
  simp only [statusBundleBytes, halfBytes_eq_be16, statusEntry, List.cons_append, List.nil_append, List.append_assoc]
  rfl

theorem answerBytes_eq (a : Answer) : answerBytes a = answerLayout a := by
  cases a with
  | joined kind => cases kind <;> rfl
  | renewed | granted | termRange =>
    simp only [answerBytes, halfBytes_eq_be16, answerLayout]
    rfl
  | status tag bundles =>
    have entries : bundles.flatMap statusBundleBytes = bundles.flatMap statusEntry := List.flatMap_congr fun b _ => statusBundleBytes_eq b
    cases tag with
    | none => simp only [answerBytes, entries, answerLayout]; rfl
    | some tag => simp only [answerBytes, entries, answerLayout]; rfl
  | _ => rfl

/-! ### The transmitter (R122) -/

theorem lineBits_eq (c : LineChar) : c.bits = lineBits c := rfl

theorem frameLayout_length (address kind : Byte) (body : List Byte) : (frameLayout address kind body).length = 5 + body.length := by
  simp [frameLayout, be16]
  omega

/-- With no reply awaited a transmission changes the link alone. -/
theorem transmit_eq {s : State} (h : ∀ x w d, s.es.exchange ≠ .awaiting x w d) {address : Nat} (small : address ≤ 62) (kind : Byte)
    (body : List Byte) : s.transmit address kind body =
      { s with li := { s.li with receiver := .muted
                                 transmitter := .sending (frameLayout (0x80#8 ||| BitVec.ofNat 8 address) kind body) } } := by
  have abandoned : s.abandonFrame .transmit .muted = s.setReceiver .muted := by
    simp only [State.abandonFrame]
    split
    · exact takeReport_outside (s := s.setReceiver .muted) h _
    · rfl
  rw [State.transmit, abandoned, frameChars_eq, addressByteFromPart_eq small]
  rfl

theorem exec_transmitDone {s : State} {chars : List LineChar} (h : s.li.transmitter = .sending chars) :
    exec .transmitDone s = .next s.endTransmission := by
  show execTransmitDone s = _
  rw [execTransmitDone, h]

theorem exec_transmitDone_idle {s : State} (h : s.li.transmitter = .idle) : exec .transmitDone s = .next s := by
  show execTransmitDone s = _
  rw [execTransmitDone, h]

theorem exec_sendAnswer {s : State} {x : Exchange} {a : StoredAnswer} (answering : s.es.exchange = .answering x a false)
    (idle : s.li.transmitter = .idle) :
    exec .sendAnswer s = .next ((s.transmit x.address kindAnswer (answerBody a)).setExchange (.answering x a true)) := by
  show execSendAnswer s = _
  rw [execSendAnswer, answering]
  exact if_pos idle

/-- Settles O20, from what the lines show and what each end of a transmission does. -/
theorem framesSentMoveTheExchange : Obligations.FramesSentMoveTheExchange := by
  unfold Obligations.FramesSentMoveTheExchange
  refine ⟨fun s => ⟨fun idle => ⟨?_, lbtxLevels_idle s idle⟩, fun chars sending => ⟨?_, ?_⟩, fun address kind body sending => ?_⟩,
    fun s x a => ?moves⟩
  case moves =>
    intro sent
    refine ⟨fun chars sending polling => ?_, fun chars sending answering => ?_, exec_transmitDone_idle, fun idle answering small => ?_⟩
    · refine (exec_transmitDone sending).trans (congrArg Host.Outcome.next ?_)
      rw [State.endTransmission, polling]
      exact Eq.refl _
    · rw [exec_transmitDone sending, State.endTransmission, answering]
      exact Eq.refl _
    · have outside : ∀ x w d, s.es.exchange ≠ .awaiting x w d := fun x w d => by rw [answering]; exact ExchangeState.noConfusion
      rw [exec_sendAnswer answering idle, transmit_eq outside small, answerBody, answerBytes_eq]
      exact Eq.refl _
  · exact Bool.eq_false_iff.2 fun active => (lbdeActive_iff s).1 active idle
  · rw [lbdeActive_iff, sending]
    simp
  · exact lbtxLevels_sending s sending
  · have bits : ∀ c ∈ frameLayout address kind body, c.bits.length = 11 := fun c _ => c.bits_length
    rw [lbtxLevels_sending s sending, List.length_cons, List.length_flatMap, List.map_congr_left bits, List.map_const', List.sum_replicate,
      frameLayout_length, smul_eq_mul]
    omega

/-! ### Whose turn it is (R126 to R131) -/

theorem lowestAddress_cases (s : State) (l : List Slot) : (l = [] ∧ s.lowestAddress l = none) ∨
    ∃ c ∈ l, s.lowestAddress l = some c ∧ ∀ d ∈ l, s.addressOf c ≤ s.addressOf d := by
  induction l with
  | nil => exact .inl ⟨rfl, rfl⟩
  | cons c rest ih =>
    right
    obtain ⟨rfl, none⟩ | ⟨d, hd, lowest, least⟩ := ih
    · exact ⟨c, List.mem_cons_self, by rw [State.lowestAddress, none], by simp⟩
    · rw [State.lowestAddress, lowest]
      dsimp only
      split
      · next less =>
        refine ⟨d, List.mem_cons_of_mem c hd, rfl, fun e he => ?_⟩
        obtain rfl | he := List.mem_cons.1 he
        · exact less.le
        · exact least e he
      · next more =>
        refine ⟨c, List.mem_cons_self, rfl, fun e he => ?_⟩
        obtain rfl | he := List.mem_cons.1 he
        · exact le_rfl
        · exact (Nat.not_lt.1 more).trans (least e he)

theorem lowestAddress_eq_none {s : State} {l : List Slot} : s.lowestAddress l = none ↔ l = [] := by
  obtain ⟨rfl, none⟩ | ⟨c, hc, lowest, -⟩ := lowestAddress_cases s l
  · exact iff_of_true none rfl
  · exact iff_of_false (by simp [lowest]) (List.ne_nil_of_mem hc)

/-- Among clients of different addresses the one with the lowest is chosen. -/
theorem lowestAddress_eq_some {s : State} {l : List Slot} (distinct : ∀ c ∈ l, ∀ d ∈ l, s.addressOf c = s.addressOf d → c = d) {c : Slot}
    (mem : c ∈ l) (least : ∀ d ∈ l, s.addressOf c ≤ s.addressOf d) : s.lowestAddress l = some c := by
  obtain ⟨rfl, -⟩ | ⟨d, hd, lowest, low⟩ := lowestAddress_cases s l
  · exact absurd mem (by simp)
  · rw [lowest, distinct d hd c mem (le_antisymm (low c mem) (least d hd))]

/-- The choice by pointer (R128). -/
theorem pickFrom_eq_some {s : State} {set : Slot → Prop} {l : List Slot} (members : ∀ c, c ∈ l ↔ set c)
    (distinct : ∀ c ∈ l, ∀ d ∈ l, s.addressOf c = s.addressOf d → c = d) {pointer : Nat} {c : Slot} (picked : PickedFrom s set pointer c) :
    s.pickFrom pointer l = some c := by
  obtain ⟨mem, choice⟩ := picked
  obtain ⟨above, least⟩ | ⟨below, least⟩ := choice
  · have chosen : s.lowestAddress (l.filter fun d => decide (pointer ≤ s.addressOf d)) = some c := by
      refine lowestAddress_eq_some (fun d hd e he => distinct d (List.mem_filter.1 hd).1 e (List.mem_filter.1 he).1)
        (List.mem_filter.2 ⟨(members c).2 mem, decide_eq_true above⟩) fun d hd => ?_
      obtain ⟨hd, high⟩ := List.mem_filter.1 hd
      exact least d ((members d).1 hd) (of_decide_eq_true high)
    rw [State.pickFrom, chosen]
  · have none : s.lowestAddress (l.filter fun d => decide (pointer ≤ s.addressOf d)) = Option.none := by
      rw [lowestAddress_eq_none, List.filter_eq_nil_iff]
      exact fun d hd high => Nat.not_le.2 (below d ((members d).1 hd)) (of_decide_eq_true high)
    rw [State.pickFrom, none]
    exact lowestAddress_eq_some distinct ((members c).2 mem) fun d hd => least d ((members d).1 hd)

theorem mem_rotationSet {s : State} (c : Slot) : c ∈ s.rotationSet ↔ InRotation s c := by
  simp [State.rotationSet, State.inUse, InRotation, -Fin.getElem_fin]

theorem mem_rollCallSet {s : State} (c : Slot) : c ∈ s.rollCallSet ↔ InRollCall s c := by
  simp [State.rollCallSet, State.inUse, InRollCall, -Fin.getElem_fin]

theorem isEmpty_iff_no_member {set : Slot → Prop} {l : List Slot} (members : ∀ c, c ∈ l ↔ set c) : l.isEmpty = true ↔ ∀ c, ¬ set c := by
  rw [List.isEmpty_iff, List.eq_nil_iff_forall_not_mem]
  exact forall_congr' fun c => not_congr (members c)

theorem choosesRollCall_iff {s : State} : s.choosesRollCall = true ↔ RollCallDue s := by
  rw [State.choosesRollCall, Bool.and_eq_true, Bool.or_eq_true, decide_eq_true_iff, isEmpty_iff_no_member mem_rotationSet,
    Bool.not_eq_true', ← Bool.not_eq_true, isEmpty_iff_no_member mem_rollCallSet]
  exact and_congr_left fun _ => not_forall_not

/-- In a valid catalogue no two clients in use share an address. -/
theorem addressOf_distinct {s : State} (h : CatalogueSound s) {l : List Slot} (used : ∀ c ∈ l, s.cu.catalogue.clients[c].enabled = true) :
    ∀ c ∈ l, ∀ d ∈ l, s.addressOf c = s.addressOf d → c = d := by
  obtain ⟨-, -, -, distinct⟩ := (valid_iff _).1 h
  intro c hc d hd same
  by_contra other
  exact (addressesDistinct_iff _).1 distinct c d other (used c hc) (used d hd) same

theorem address_le {s : State} (h : CatalogueSound s) (c : Slot) : s.addressOf c ≤ 62 := by
  obtain ⟨-, clients, -⟩ := (valid_iff _).1 h
  exact (clients c).2.1

/-- The conditions under which an exchange may begin (R126). -/
abbrev MayBegin (s : State) : Prop := s.inService = true ∧ s.es.exchange = .gap ∧ s.li.transmitter = .idle

theorem exec_beginExchange {s : State} (h : MayBegin s) {c : Slot} (target : s.chooseTarget = some c) :
    exec .beginExchange s = .next (s.pollTarget c) := by
  show execBeginExchange s = _
  rw [execBeginExchange, if_pos h, target]

theorem exec_beginExchange_quiet {s : State} (h : MayBegin s) (quiet : s.chooseTarget = none) : exec .beginExchange s = .next s := by
  show execBeginExchange s = _
  rw [execBeginExchange, if_pos h, quiet]

/-- A POLL is handed to the transmitter. -/
theorem pollTarget_eq {s : State} (gap : s.es.exchange = .gap) (sound : CatalogueSound s) (c : Slot) : s.pollTarget c =
    polled s c (be16 (s.lt.clock.truncate 16) ++ ((s.pollNotice c).map noticeLayout).getD []) (s.afterChoice c) := by
  have exchange : (s.afterChoice c).exchange = .gap := by
    unfold State.afterChoice
    split
    · exact gap
    · exact gap
  have outside : ∀ x w d, ({ s with es := s.afterChoice c } : State).es.exchange ≠ .awaiting x w d := fun x w d => by
    show (s.afterChoice c).exchange ≠ _
    rw [exchange]
    exact ExchangeState.noConfusion
  have body : pollBody s.lt.clock (s.pollNotice c) = be16 (s.lt.clock.truncate 16) ++ ((s.pollNotice c).map noticeLayout).getD [] := by
    unfold pollBody
    rw [halfBytes_eq_be16]
    cases s.pollNotice c with
    | none => rfl
    | some n =>
      refine congrArg₂ (· ++ ·) rfl ?_
      exact noticeBytes_eq n
  rw [State.pollTarget, body, transmit_eq outside (address_le sound c)]
  rfl

/-- Settles O19, from the choice of the target and the POLL it is sent. -/
theorem beginExchangePollsWhoseTurnItIs : Obligations.BeginExchangePollsWhoseTurnItIs := by
  unfold Obligations.BeginExchangePollsWhoseTurnItIs
  intro s sound ready
  refine ⟨fun c begins due picked => ?_, fun c begins notDue picked => ?_, fun begins noRotation noRollCall => ?_, fun not => if_neg not⟩
  · have rollCall : s.choosesRollCall = true := choosesRollCall_iff.2 due
    have target : s.chooseTarget = some c := by
      rw [State.chooseTarget, if_pos rollCall]
      exact pickFrom_eq_some mem_rollCallSet (addressOf_distinct sound fun c hc => ((mem_rollCallSet c).1 hc).1) picked
    have silent : s.pollNotice c = none := if_neg fun joined => by
      obtain ⟨⟨-, absent | silent⟩, -⟩ := picked
      · rw [joined] at absent; cases absent
      · rw [joined] at silent; cases silent
    have after : s.afterChoice c = { s.es with rollCallPointer := pointerAfter (addressIn s c), rollCallCounter := 0 } := if_pos rollCall
    rw [exec_beginExchange begins target, pollTarget_eq begins.2.1 sound, silent, after, Option.map_none, Option.getD_none, List.append_nil]
  · have rotation : ¬ s.choosesRollCall = true := mt choosesRollCall_iff.1 notDue
    have target : s.chooseTarget = some c := by
      rw [State.chooseTarget, if_neg rotation]
      exact pickFrom_eq_some mem_rotationSet (addressOf_distinct sound fun c hc => ((mem_rotationSet c).1 hc).1) picked
    have notice : s.pollNotice c = s.ct[c].outbox.head? := if_pos picked.1.2
    have after : s.afterChoice c =
        { s.es with rotationPointer := pointerAfter (addressIn s c), rollCallCounter := min (s.es.rollCallCounter + 1) 255 } := if_neg rotation
    rw [exec_beginExchange begins target, pollTarget_eq begins.2.1 sound, notice, after]
    cases s.ct[c].outbox with
    | nil => rfl
    | cons n rest => rfl
  · refine exec_beginExchange_quiet begins ?_
    have empty : s.rotationSet = [] := List.eq_nil_iff_forall_not_mem.2 fun c hc => noRotation c ((mem_rotationSet c).1 hc)
    rw [State.chooseTarget, if_neg fun rollCall => ?_, empty]
    · rfl
    · obtain ⟨⟨c, hc⟩, -⟩ := choosesRollCall_iff.1 rollCall
      exact noRollCall c hc

end Sys2Proof.Machine

/-! The supervisor commands on zones, bundles, requests and clients (O42, O43, O45). -/

namespace Sys2Proof.Machine

open Sys2Proof.Claim

/-! ### The checks that come first -/

theorem checkInService_of_served {s : State} (h : served s = true) (accepted : State) : (taken s).checkInService accepted = accepted :=
  if_pos h

theorem checkInService_of_not_served {s : State} (h : served s = false) (accepted : State) :
    (taken s).checkInService accepted = refusedWith s .wrongMode [] :=
  (if_neg (Bool.eq_false_iff.1 h)).trans (taken_respond s _ _)

theorem checkNotBoot_of_running {s : State} (h : s.mc.mode ≠ .boot) (accepted : State) : (taken s).checkNotBoot accepted = accepted :=
  if_neg h

theorem checkNotBoot_of_boot {s : State} (h : s.mc.mode = .boot) (accepted : State) :
    (taken s).checkNotBoot accepted = refusedWith s .wrongMode [] :=
  (if_pos h).trans (taken_respond s _ _)

/-- A command taken where it is accepted is decided by its own rule. -/
theorem exec_served {s t : State} {row : Instr} {code : Byte} {decision rule : Block → State → State}
    (arm : exec row s = .next (s.execute code decision)) (check : ∀ copy u, decision copy u = u.checkInService (rule copy u))
    (ready : Ready s code) (mode : served s = true) (decides : rule s.si.commandBlock (taken s) = t) : exec row s = .next t := by
  rw [exec_of_ready arm ready, check, checkInService_of_served mode, decides]

theorem exec_running {s t : State} {row : Instr} {code : Byte} {decision rule : Block → State → State}
    (arm : exec row s = .next (s.execute code decision)) (check : ∀ copy u, decision copy u = u.checkNotBoot (rule copy u))
    (ready : Ready s code) (mode : s.mc.mode ≠ .boot) (decides : rule s.si.commandBlock (taken s) = t) : exec row s = .next t := by
  rw [exec_of_ready arm ready, check, checkNotBoot_of_running mode, decides]

/-! ### Argument bytes -/

theorem zoneOfByte_arg {s : State} {z : ZoneId} {i : Nat} (h : arg s i = BitVec.ofNat 8 z.val) :
    zoneOfByte (blockArg s.si.commandBlock i) = some z :=
  (congrArg zoneOfByte h).trans (zoneOfByte_val z)

theorem slotOfByte_arg {s : State} {c : Slot} {i : Nat} (h : arg s i = BitVec.ofNat 8 c.val) :
    slotOfByte (blockArg s.si.commandBlock i) = some c :=
  (congrArg slotOfByte h).trans (slotOfByte_val c)

theorem bundleOfByte_arg {s : State} {b : BundleId} {i : Nat} (h : arg s i = bundleByte b) :
    bundleOfByte (blockArg s.si.commandBlock i) = some b :=
  (congrArg bundleOfByte h).trans (bundleOfByte_val b)

theorem policyOfByte_arg {s : State} {p : ExpiryPolicy} {i : Nat} (h : arg s i = (match p with | .free => 0x00#8 | .fence => 0x01#8)) :
    policyOfByte (blockArg s.si.commandBlock i) = some p := by
  refine (congrArg policyOfByte h).trans ?_
  cases p with
  | free => decide
  | fence => decide

/-! ### Zones (O42) -/

/-- Settles O42, one case for each line. -/
theorem zoneCommandsSetFlagAndFences : Obligations.ZoneCommandsSetFlagAndFences := by
  unfold Obligations.ZoneCommandsSetFlagAndFences
  intro s z mode named
  have zone := zoneOfByte_arg named
  intro r
  refine ⟨fun ready => exec_served rfl (fun _ _ => rfl) ready mode ?closes, fun ready closed => exec_served rfl (fun _ _ => rfl) ready mode ?opens,
    fun ready already => exec_served rfl (fun _ _ => rfl) ready mode ?isOpen,
    fun ready fenced => exec_served rfl (fun _ _ => rfl) ready mode ?clears, fun ready free => exec_served rfl (fun _ _ => rfl) ready mode ?isFree⟩
  case closes =>
    rw [zone]
    exact respond_eq_decided (t := (taken s).setZone z { r with closed := true }) rfl _ _
  case opens =>
    rw [zone]
    exact (if_pos closed).trans
      (respond_eq_decided (t := (withZone (taken s) z { r with closed := false }).requestScan) (requestScan_si _) _ _)
  case isOpen =>
    rw [zone]
    exact (if_neg (Bool.eq_false_iff.1 already)).trans (taken_respond s _ _)
  case clears =>
    rw [zone]
    exact (if_neg fenced).trans
      (respond_eq_decided (t := (withZone (taken s) z { r with fences := 0 }).requestScan) (requestScan_si _) _ _)
  case isFree =>
    rw [zone]
    exact (if_pos free).trans (taken_respond s _ _)

/-! ### Bundles and requests (O43) -/

theorem markedZones_const (zones : List ZoneId) (p : ExpiryPolicy) :
    (markedZones zones fun _ => p) = zones.map fun z => (z, decide (p = .fence)) := by
  cases p with
  | free => rfl
  | fence => rfl

theorem entryOf_of_split {s : State} {c : Slot} {older younger : List Entry} {e : Entry} (entries : s.ge.entries = older ++ e :: younger)
    (own : e.client = c) (others : ∀ y ∈ older ++ younger, y.client ≠ c) : s.entryOf c = some e := by
  have before : older.find? (fun e => e.client == c) = none :=
    List.find?_eq_none.2 fun y hy same => others y (List.mem_append_left _ hy) (beq_iff_eq.1 same)
  rw [State.entryOf, entries, List.find?_append, before, Option.none_or]
  exact List.find?_cons_of_pos (beq_iff_eq.2 own)

theorem removeEntry_of_split {s : State} {c : Slot} {older younger : List Entry} {e : Entry} (entries : s.ge.entries = older ++ e :: younger)
    (own : e.client = c) (others : ∀ y ∈ older ++ younger, y.client ≠ c) : s.removeEntry c = s.setEntries (older ++ younger) := by
  have kept : ∀ l : List Entry, (∀ y ∈ l, y.client ≠ c) → l.filter (fun e => !(e.client == c)) = l := fun l h =>
    List.filter_eq_self.2 fun y hy => by simp [h y hy]
  rw [State.removeEntry, entries, List.filter_append, List.filter_cons_of_neg (by simp [own]),
    kept older fun y hy => others y (List.mem_append_left _ hy), kept younger fun y hy => others y (List.mem_append_right _ hy)]

theorem positionOf_of_split {s : State} {c : Slot} {older younger : List Entry} {e : Entry} (entries : s.ge.entries = older ++ e :: younger)
    (own : e.client = c) (others : ∀ y ∈ older ++ younger, y.client ≠ c) : s.positionOf c = older.length + 1 := by
  have before : ∀ y ∈ older, (!(y.client == c)) = true := fun y hy => by simp [others y (List.mem_append_left _ hy)]
  rw [State.positionOf, entries, List.takeWhile_append_of_pos before, List.takeWhile_cons_of_neg (by simp [own]), List.append_nil]

/-- Settles O43, each command by what its argument names. -/
theorem revokeAndWithdrawTakeBack : Obligations.RevokeAndWithdrawTakeBack := by
  unfold Obligations.RevokeAndWithdrawTakeBack
  refine ⟨fun s b p ready mode bundle policy => ?revoke, fun s c ready mode client => ?withdraw⟩
  case revoke =>
    have named := bundleOfByte_arg bundle
    have disposition := policyOfByte_arg policy
    refine ⟨fun empty => exec_served rfl (fun _ _ => rfl) ready mode ?_, fun y live => exec_served rfl (fun _ _ => rfl) ready mode ?_⟩
    · rw [named, disposition]
      dsimp only
      rw [show (taken s).ge.bundles[b] = none from empty]
      exact taken_respond s _ _
    · rw [named, disposition]
      dsimp only
      rw [show (taken s).ge.bundles[b] = some y from live]
      dsimp only
      rw [markedZones_const]
      refine (respond_eq_decided (s := s) ?_ _ _).trans ?_
      · exact (requestScan_si _).trans ((postNotice_tables _ _ _).si.trans (endBundle_tables _ _ _).si)
      · cases p with
        | free => rfl
        | fence => rfl
  case withdraw =>
    have named := slotOfByte_arg client
    refine ⟨fun none => exec_served rfl (fun _ _ => rfl) ready mode ?_, fun older e younger entries own others =>
      exec_served rfl (fun _ _ => rfl) ready mode ?_⟩
    · have absent : (taken s).entryOf c = Option.none := Option.not_isSome_iff_eq_none.1 (mt entryOf_isSome_iff.1 none)
      rw [named]
      dsimp only
      rw [absent]
      exact taken_respond s _ _
    · rw [named]
      dsimp only
      rw [entryOf_of_split (s := taken s) entries own others, removeEntry_of_split (s := taken s) entries own others,
        positionOf_of_split (s := taken s) entries own others]
      exact respond_eq_decided (t := (((taken s).setEntries (older ++ younger)).postNotice c (.withdrawn e.tag .supervisor)).requestScan)
        ((requestScan_si _).trans (postNotice_tables _ _ _).si) _ _

/-! ### Attentions (O41) -/

theorem bumpCount_eq (n : Byte) : bumpCount n = BitVec.ofNat 8 (min (n.toNat + 1) 255) := bumpRenews_eq n

/-- Settles O41, a posting by whether its pair stands in the set, a fetch by whether the set is empty. -/
theorem attentionsArePostedAndFetched : Obligations.AttentionsArePostedAndFetched := by
  unfold Obligations.AttentionsArePostedAndFetched
  refine ⟨fun s what => ⟨fun l e r entries pair others => ?counts, fun new room => ?appends, fun new full => ?drops⟩,
    fun s ready mode => ⟨fun empty => ?nothing, fun e rest entries => ?fetches⟩⟩
  case counts =>
    have kept : ∀ k : List AttentionEntry, (∀ y ∈ k, y.what ≠ what) →
        (k.map fun e => if e.what = what then { e with count := bumpCount e.count } else e) = k := fun k h =>
      (List.map_congr_left fun y hy => if_neg (h y hy)).trans (List.map_id' k)
    have stands : (s.attn.entries.any fun e => e.what == what) = true :=
      List.any_eq_true.2 ⟨e, by simp [entries], beq_iff_eq.2 pair⟩
    rw [State.postAttention, AttentionSet.post, if_pos stands, entries, List.map_append, List.map_cons, if_pos pair, bumpCount_eq,
      kept l fun y hy => others y (List.mem_append_left _ hy), kept r fun y hy => others y (List.mem_append_right _ hy)]
  case appends =>
    have missing : ¬ (s.attn.entries.any fun e => e.what == what) = true := by simpa using new
    rw [State.postAttention, AttentionSet.post, if_neg missing, if_pos room]
  case drops =>
    have missing : ¬ (s.attn.entries.any fun e => e.what == what) = true := by simpa using new
    rw [State.postAttention, AttentionSet.post, if_neg missing, if_neg (not_lt.2 full)]
  case nothing =>
    refine exec_running rfl (fun _ _ => rfl) ready mode ?_
    have set : (taken s).attn.fetch = { s.attn with overflow := false } := by simp [AttentionSet.fetch, taken, empty]
    have bytes : fetchBytes (taken s).attn = List.replicate 10 0#8 := by
      rw [fetchBytes, set, show (taken s).attn.entries = [] from empty]
      simp [empty, numByte, flagByte]
    rw [set, bytes]
    exact respond_eq_decided (t := { taken s with attn := { s.attn with overflow := false } }) rfl _ _
  case fetches =>
    intro flag
    refine exec_running rfl (fun _ _ => rfl) ready mode ?_
    have set : (taken s).attn.fetch = { entries := rest, overflow := flag } := by simp [AttentionSet.fetch, taken, entries, flag]
    have layout : [attentionKindByte e.what, attentionSubjectByte e.what] = attentionLayout e.what := by cases e.what <;> rfl
    have bytes : fetchBytes (taken s).attn =
        1#8 :: attentionLayout e.what ++ be32 e.stamp ++ [e.count, BitVec.ofNat 8 rest.length, if flag then 1#8 else 0#8] := by
      rw [fetchBytes, set, show (taken s).attn.entries = e :: rest from entries, ← layout, ← wordBytes_eq_be32]
      rfl
    rw [set, bytes]
    exact respond_eq_decided (t := { taken s with attn := { entries := rest, overflow := flag } }) rfl _ _

end Sys2Proof.Machine

/-! BAR_CLIENT, UNBAR_CLIENT and the reads of the tables (O45, O44, O47). -/

namespace Sys2Proof.Machine

open Sys2Proof.Claim

/-! ### Barring a client (O45) -/

theorem markDiscard_eq_discardMarked (s : State) (c : Slot) : s.markDiscard c = discardMarked s c := by
  unfold State.markDiscard discardMarked
  cases s.es.exchange <;> rfl

theorem clientStateByte_eq (state : ClientState) :
    clientStateByte state = match state with | .absent => 0#8 | .joined => 1#8 | .silent => 2#8 | .barred => 3#8 := by
  cases state <;> rfl

theorem barClient_eq (s : State) (c : Slot) (p : ExpiryPolicy) : s.barClient c p =
    (discardMarked (withClient (entryGone (endedAll s (heldBy s c) fun _ => p) c) c fun r =>
      { r with state := .barred, session := none, misses := 0, last := none, outbox := [] }) c).requestScan := by
  rw [← markDiscard_eq_discardMarked, ← removeEntry_eq_entryGone, ← endBundles_eq_endedAll]
  rfl

theorem barClient_si (s : State) (c : Slot) (p : ExpiryPolicy) : (s.barClient c p).si = s.si := by
  have ended : (s.endBundles (s.bundlesOf c) fun _ => p).si = s.si := (endBundles_tables s _ _).si
  rw [State.barClient, requestScan_si, markDiscard_es]
  exact ended

theorem unitsHeld_eq (s : State) (c : Slot) : s.unitsHeld c =
    ((heldBy s c).map fun b => match s.ge.bundles[b] with | some y => y.zones.length | none => 0).sum := by
  rw [State.unitsHeld, bundlesOf_eq_heldBy]
  refine congrArg List.sum (List.map_congr_left fun b _ => ?_)
  cases live : s.ge.bundles[b] with
  | none => rw [zonesOfBundle_none live]; rfl
  | some y => rw [zonesOfBundle_some live]

theorem zonesFenced_eq (p : ExpiryPolicy) (n : Nat) : zonesFenced p n = match p with | .free => 0 | .fence => n := by
  cases p <;> rfl

theorem flagByte_entryOf (s : State) (c : Slot) : flagByte (s.entryOf c).isSome = if Waits s c then 1#8 else 0#8 := by
  rw [flagByte]
  exact if_congr entryOf_isSome_iff rfl rfl

/-- Settles O45, one case for each line. -/
theorem barAndUnbarClient : Obligations.BarAndUnbarClient := by
  unfold Obligations.BarAndUnbarClient
  intro s c mode used client
  have named := slotOfByte_arg client
  have inUse : ¬ (!(taken s).inUse c) = true := by simpa [State.inUse, taken, -Fin.getElem_fin] using used
  refine ⟨fun p ready policy => ⟨fun barred => exec_running rfl (fun _ _ => rfl) ready mode ?again,
      fun other => exec_running rfl (fun _ _ => rfl) ready mode ?bars⟩,
    fun ready barred => exec_running rfl (fun _ _ => rfl) ready mode ?unbars,
    fun ready other => exec_running rfl (fun _ _ => rfl) ready mode ?refused⟩
  case again =>
    rw [named, policyOfByte_arg policy]
    exact (if_neg inUse).trans ((if_pos barred).trans (taken_respond s _ _))
  case bars =>
    rw [named, policyOfByte_arg policy]
    refine (if_neg inUse).trans ((if_neg other).trans ?_)
    rw [respond_eq_decided (s := s) (barClient_si _ c p), barClient_eq, clientStateByte_eq, zonesFenced_eq, unitsHeld_eq, flagByte_entryOf]
    exact Eq.refl _
  case unbars =>
    rw [named]
    exact (if_neg inUse).trans ((if_pos barred).trans
      (respond_eq_decided (s := s) (t := (taken s).setClient c { s.ct[c] with state := .absent }) rfl _ _))
  case refused =>
    rw [named]
    exact (if_neg inUse).trans ((if_neg other).trans (taken_respond s _ _))

/-! ### The records of the catalogue (O47) -/

theorem zoneRecordBytes_eq (r : ZoneRecord) : zoneRecordBytes r = zoneLayout r := by
  rw [zoneRecordBytes, halfBytes_eq_be16]
  rfl

theorem clientRecordBytes_eq (r : ClientRecord) : clientRecordBytes r = clientLayout r := by
  rw [clientRecordBytes, halfBytes_eq_be16]
  rfl

theorem parameterBytes_eq (p : Parameters) : parameterBytes p = parameterLayout p := by
  rw [parameterBytes, halfBytes_eq_be16, halfBytes_eq_be16]
  rfl

/-- Settles O47, each read by the record's layout. -/
theorem catalogueReadsAndFreeze : Obligations.CatalogueReadsAndFreeze := by
  unfold Obligations.CatalogueReadsAndFreeze
  intro s mode
  refine ⟨fun z ready zone => exec_running rfl (fun _ _ => rfl) ready mode ?zone,
    fun c ready client => exec_running rfl (fun _ _ => rfl) ready mode ?client, fun ready => exec_running rfl (fun _ _ => rfl) ready mode ?params,
    fun ready => exec_running rfl (fun _ _ => rfl) ready mode ?freeze⟩
  case zone =>
    rw [zoneOfByte_arg zone]
    dsimp only
    rw [zoneRecordBytes_eq]
    exact taken_respond s _ _
  case client =>
    rw [slotOfByte_arg client]
    dsimp only
    rw [clientRecordBytes_eq]
    exact taken_respond s _ _
  case params =>
    rw [parameterBytes_eq]
    exact taken_respond s _ _
  case freeze => exact respond_eq_decided (s := s) (t := { taken s with cu := { s.cu with freeze := true } }) rfl _ _

/-! ### The tables (O44) -/

theorem derivedStateByte_eq (s : State) (z : ZoneId) : derivedStateByte (s.derivedState z) =
    if s.ge.zones[z].closed = true then 4#8 else if s.ge.zones[z].fences ≠ 0 then 3#8
      else if s.ge.zones[z].holders.length = s.cu.catalogue.zones[z].capacity then 2#8
      else if s.ge.zones[z].holders ≠ [] then 1#8 else 0#8 := by
  simp only [State.derivedState, apply_ite derivedStateByte, Nat.one_le_iff_ne_zero, List.length_eq_zero_iff, ne_eq]
  rfl

theorem bundleBytes_eq (now : Word) (y : Bundle) : bundleBytes now y =
    [BitVec.ofNat 8 y.holder.val, y.tag] ++ be16 y.token ++ be16 y.term ++ be32 y.deadline ++ [y.renews] ++
      be16 (if (now - y.deadline).toNat < 2 ^ 31 then 0#16 else (y.deadline - now).truncate 16) ++
      [BitVec.ofNat 8 y.zones.length] ++ zoneBytes y.zones := by
  simp only [bundleBytes, halfBytes_eq_be16, wordBytes_eq_be32, lowHalf_remainingTicks]
  rfl

theorem entryBytes_eq (length : Nat) (now : Word) (e : Entry) : entryBytes length now e =
    [BitVec.ofNat 8 length, BitVec.ofNat 8 e.client.val, e.tag] ++ be16 e.term ++ be16 e.arrival ++ be32 e.stamp ++
      be32 (now - e.stamp) ++ [if e.alarmed then 1#8 else 0#8, BitVec.ofNat 8 e.zones.length] ++ zoneBytes e.zones := by
  simp only [entryBytes, halfBytes_eq_be16, wordBytes_eq_be32]
  rfl

theorem queueHeadBytes_eq (s : State) : s.queueHeadBytes = match s.lt.queue with
    | b :: _ => [1#8, bundleByte b] ++ be32 (deadlineIn s.ge.bundles b) ++
        be16 (if (s.lt.clock - deadlineIn s.ge.bundles b).toNat < 2 ^ 31 then 0#16
          else (deadlineIn s.ge.bundles b - s.lt.clock).truncate 16)
    | [] => [0#8, 0#8, 0#8, 0#8, 0#8, 0#8, 0#8, 0#8] := by
  unfold State.queueHeadBytes
  cases s.lt.queue with
  | nil => rfl
  | cons b rest =>
    simp only [halfBytes_eq_be16, wordBytes_eq_be32, lowHalf_remainingTicks, deadlineOf_eq]
    rfl

theorem optionalHalf_eq (h : Option Half) : optionalHalf h = match h with | some h => 1#8 :: be16 h | none => [0#8, 0#8, 0#8] := by
  cases h with
  | none => rfl
  | some h => exact congrArg (1#8 :: ·) (halfBytes_eq_be16 h)

/-- Four places for bundle ids, filled up with 00H. -/
theorem four_places {ids : List Byte} (h : ids.length ≤ 4) : (ids ++ List.replicate 4 0#8).take 4 = ids ++ List.replicate (4 - ids.length) 0#8 := by
  rw [List.take_append, List.take_of_length_le h, List.take_replicate, Nat.min_eq_left (Nat.sub_le 4 _)]

theorem clientBytes_eq (s : State) (c : Slot) (few : bundleCount s c ≤ 4) : s.clientBytes c =
    [match s.ct[c].state with | .absent => 0#8 | .joined => 1#8 | .silent => 2#8 | .barred => 3#8, BitVec.ofNat 8 (addressIn s c)] ++
      (match s.ct[c].session with | some h => 1#8 :: be16 h | none => [0#8, 0#8, 0#8]) ++
      [BitVec.ofNat 8 s.ct[c].misses, BitVec.ofNat 8 ((heldBy s c).map bundleByte).length] ++ (heldBy s c).map bundleByte ++
      List.replicate (4 - ((heldBy s c).map bundleByte).length) 0#8 ++
      (match entryFor s c with | some e => [1#8, e.tag] | none => [0#8, 0#8]) ++ [BitVec.ofNat 8 s.ct[c].outbox.length] ++
      (match s.ct[c].outbox with | n :: _ => [1#8, n.seq] | [] => [0#8, 0#8]) ++ [s.ct[c].nextNotice] ++
      (match s.ct[c].last with | some a => [1#8, a.seq.zeroExtend 8] | none => [0#8, 0#8]) := by
  have count : ((heldBy s c).map bundleByte).length ≤ 4 := by rw [List.length_map]; exact few
  have ids : ((s.bundlesOf c).map fun b => numByte b.val) = (heldBy s c).map bundleByte := rfl
  have entry : optionalByte ((s.entryOf c).map fun e => e.tag) = match entryFor s c with | some e => [1#8, e.tag] | none => [0#8, 0#8] := by
    rw [entryOf_eq_entryFor]
    cases entryFor s c <;> rfl
  have notice : optionalByte (s.ct[c].outbox.head?.map fun n => n.seq) = match s.ct[c].outbox with | n :: _ => [1#8, n.seq] | [] => [0#8, 0#8] := by
    cases s.ct[c].outbox <;> rfl
  have last : optionalByte (s.ct[c].last.map fun a => a.seq.zeroExtend 8) =
      match s.ct[c].last with | some a => [1#8, a.seq.zeroExtend 8] | none => [0#8, 0#8] := by
    cases s.ct[c].last <;> rfl
  simp only [State.clientBytes, ids, four_places count, entry, notice, last, clientStateByte_eq, optionalHalf_eq]
  rw [← List.append_assoc, List.length_map]
  rfl

/-- Settles O44, each read by its layout. -/
theorem readsReportTables : Obligations.ReadsReportTables := by
  unfold Obligations.ReadsReportTables
  refine ⟨fun s mode => ⟨fun z ready zone => ?zone, fun b ready bundle => ?bundle, fun ready => ?pending, fun ready p period => ?clock⟩,
    fun s c ready mode used client few => ?client⟩
  case zone =>
    refine exec_running rfl (fun _ _ => rfl) ready mode ?_
    rw [zoneOfByte_arg zone]
    dsimp only
    rw [derivedStateByte_eq]
    exact taken_respond s _ _
  case bundle =>
    have named := bundleOfByte_arg bundle
    refine ⟨fun empty => exec_running rfl (fun _ _ => rfl) ready mode ?_, fun y live => exec_running rfl (fun _ _ => rfl) ready mode ?_⟩
    · rw [named]
      dsimp only
      rw [show (taken s).ge.bundles[b] = none from empty]
      exact taken_respond s _ _
    · rw [named]
      dsimp only
      rw [show (taken s).ge.bundles[b] = some y from live]
      dsimp only
      rw [bundleBytes_eq]
      exact taken_respond s _ _
  case pending =>
    refine ⟨fun older e younger entries few position => exec_running rfl (fun _ _ => rfl) ready mode ?_,
      fun out => exec_running rfl (fun _ _ => rfl) ready mode ?_, fun some few beyond => exec_running rfl (fun _ _ => rfl) ready mode ?_⟩
    · have place : (blockArg s.si.commandBlock 0).toNat = older.length + 1 := by
        rw [show blockArg s.si.commandBlock 0 = _ from position, BitVec.toNat_ofNat]
        omega
      have entry : (taken s).ge.entries[older.length + 1 - 1]? = Option.some e := by
        rw [show (taken s).ge.entries = _ from entries, Nat.add_sub_cancel]
        simp
      rw [place]
      dsimp only
      rw [if_neg (by omega), entry]
      dsimp only
      rw [entryBytes_eq]
      exact taken_respond s _ _
    · have wrong : (blockArg s.si.commandBlock 0).toNat = 0 ∨ 32 < (blockArg s.si.commandBlock 0).toNat :=
        out.imp_left fun zero => (congrArg BitVec.toNat zero).trans rfl
      exact (if_pos wrong).trans (taken_respond s _ _)
    · have positive : (arg s 0).toNat ≠ 0 := fun zero => some (BitVec.eq_of_toNat_eq zero)
      have none : (taken s).ge.entries[(blockArg s.si.commandBlock 0).toNat - 1]? = Option.none :=
        List.getElem?_eq_none (Nat.le_sub_one_of_lt beyond)
      have fits : ¬ ((blockArg s.si.commandBlock 0).toNat = 0 ∨ 32 < (blockArg s.si.commandBlock 0).toNat) :=
        not_or.2 ⟨positive, not_lt.2 few⟩
      dsimp only
      rw [if_neg fits, none]
      exact taken_respond s _ _
  case clock =>
    refine exec_running rfl (fun _ _ => rfl) ready mode ?_
    have tick : (taken s).tickPeriodNow = p := by rw [State.tickPeriodNow, show (taken s).lt.tick = some p from period]
    rw [queueHeadBytes_eq, wordBytes_eq_be32, tick, List.countP_eq_length_filter]
    exact taken_respond s _ _
  case client =>
    refine exec_running rfl (fun _ _ => rfl) ready mode ?_
    have inUse : ¬ (!(taken s).inUse c) = true := by simpa [State.inUse, taken, -Fin.getElem_fin] using used
    rw [slotOfByte_arg client]
    dsimp only
    rw [if_neg inUse, clientBytes_eq (taken s) c few]
    exact taken_respond s _ _

end Sys2Proof.Machine

/-! Edits of the working catalogue (O46) and the refusals of commands (O53). -/

namespace Sys2Proof.Machine

open Sys2Proof.Claim

/-! ### The edits of the catalogue (O46) -/

/-- The catalogue can be edited (R6). -/
abbrev Editable (s : State) : Prop := s.mc.mode = .config ∧ s.cu.freeze = false ∧ s.cm.commit = none

theorem checkEdit_of_editable {s : State} (h : Editable s) (accepted : State) : (taken s).checkEdit accepted = accepted := by
  obtain ⟨mode, thawed, idle⟩ := h
  have config : ¬ (taken s).mc.mode ≠ .config := not_not.2 mode
  have free : ¬ (taken s).cu.freeze = true := Bool.eq_false_iff.1 thawed
  have still : ¬ (taken s).cm.commit.isSome = true := by simpa [taken] using idle
  rw [State.checkEdit, if_neg config, if_neg free, if_neg still]

theorem exec_edit {s t : State} {row : Instr} {code : Byte} {decision rule : Block → State → State}
    (arm : exec row s = .next (s.execute code decision)) (check : ∀ copy u, decision copy u = u.checkEdit (rule copy u))
    (ready : Ready s code) (editable : Editable s) (decides : rule s.si.commandBlock (taken s) = t) : exec row s = .next t := by
  rw [exec_of_ready arm ready, check, checkEdit_of_editable editable, decides]

theorem replaceCatalogue_eq_catalogued (s : State) (cat : Catalogue) (dirty : Bool) : s.replaceCatalogue cat dirty = catalogued s cat dirty := rfl

theorem policy_code {pol : Byte} {p : ExpiryPolicy} (code : pol.toNat ≤ 1) : (p = .fence ↔ pol = 1#8) →
    pol = match p with | .free => 0x00#8 | .fence => 0x01#8 := by
  intro fence
  cases p with
  | fence => exact fence.1 rfl
  | free =>
    have zero : pol.toNat ≠ 1 := fun one => ExpiryPolicy.noConfusion (fence.2 (BitVec.eq_of_toNat_eq one))
    exact BitVec.eq_of_toNat_eq (show pol.toNat = 0 by omega)

theorem policy_code_small {pol : Byte} {p : ExpiryPolicy} (h : pol = match p with | .free => 0x00#8 | .fence => 0x01#8) : pol.toNat ≤ 1 := by
  subst h
  cases p with
  | free => decide
  | fence => decide

/-- What SET_ZONE's bytes are read as: a record of these fields when they fit, and nothing otherwise. -/
theorem parseZoneRecord_of_fits {en cap cl pol t1 t0 lim sc : Byte} {rest : List Byte} {r : ZoneRecord}
    (fits : 1 ≤ cap.toNat ∧ cap.toNat ≤ 4 ∧ cl.toNat < 16 ∧ pol.toNat ≤ 1 ∧ t1 ++ t0 ≠ 0#16) (enabled : r.enabled = en.getLsbD 0)
    (capacity : r.capacity = cap.toNat) (cls : r.cls.val = cl.toNat) (policy : r.policy = .fence ↔ pol = 1#8)
    (term : r.maxTerm = t1 ++ t0) (limit : r.renewalLimit = lim) (closed : r.startClosed = sc.getLsbD 0) :
    parseZoneRecord (en :: cap :: cl :: pol :: t1 :: t0 :: lim :: sc :: rest) = some r := by
  obtain ⟨low, high, -, code, positive⟩ := fits
  refine parseZoneRecord_eq_some.2 ⟨⟨en, cap, cl, pol, t1, t0, lim, sc, rest, rfl, enabled, capacity, cls, policy_code code policy, term, limit,
    closed⟩, ?_, ?_, ?_⟩
  · rw [capacity]; exact low
  · rw [capacity]; exact high
  · rw [term]; exact positive

theorem parseZoneRecord_of_unfit {en cap cl pol t1 t0 lim sc : Byte} {rest : List Byte}
    (unfit : ¬ (1 ≤ cap.toNat ∧ cap.toNat ≤ 4 ∧ cl.toNat < 16 ∧ pol.toNat ≤ 1 ∧ t1 ++ t0 ≠ 0#16)) :
    parseZoneRecord (en :: cap :: cl :: pol :: t1 :: t0 :: lim :: sc :: rest) = none := by
  refine Option.eq_none_iff_forall_ne_some.2 fun r read => unfit ?_
  obtain ⟨⟨en', cap', cl', pol', t1', t0', lim', sc', rest', same, -, capacity, cls, policy, term, -, -⟩, low, high, positive⟩ :=
    parseZoneRecord_eq_some.1 read
  simp only [List.cons.injEq] at same
  obtain ⟨-, rfl, rfl, rfl, rfl, rfl, -⟩ := same
  exact ⟨capacity ▸ low, capacity ▸ high, cls ▸ r.cls.isLt, policy_code_small policy, term ▸ positive⟩

theorem parseClientRecord_of_fits {en ad p1 p0 lim : Byte} {rest : List Byte}
    (fits : 1 ≤ ad.toNat ∧ ad.toNat ≤ 62 ∧ 1 ≤ lim.toNat ∧ lim.toNat ≤ 4) : parseClientRecord (en :: ad :: p1 :: p0 :: lim :: rest) =
      some { enabled := en.getLsbD 0, address := ad.toNat, permissions := p1 ++ p0, bundleLimit := lim.toNat } :=
  parseClientRecord_eq_some.2 ⟨⟨en, ad, p1, p0, lim, rest, rfl, rfl, rfl, rfl, rfl⟩, fits⟩

theorem parseClientRecord_of_unfit {en ad p1 p0 lim : Byte} {rest : List Byte}
    (unfit : ¬ (1 ≤ ad.toNat ∧ ad.toNat ≤ 62 ∧ 1 ≤ lim.toNat ∧ lim.toNat ≤ 4)) :
    parseClientRecord (en :: ad :: p1 :: p0 :: lim :: rest) = none := by
  refine Option.eq_none_iff_forall_ne_some.2 fun r read => unfit ?_
  obtain ⟨⟨en', ad', p1', p0', lim', rest', same, -, address, -, limit⟩, valid⟩ := parseClientRecord_eq_some.1 read
  simp only [List.cons.injEq] at same
  obtain ⟨-, rfl, -, -, rfl, -⟩ := same
  rw [ClientRecord.Valid, address, limit] at valid
  exact valid

/-- Another enabled client has the address of the new record (R8). -/
theorem addressTaken_iff {s : State} {c : Slot} {r : ClientRecord} : s.addressTaken c r = true ↔ ¬ (r.enabled = true →
    ∀ d : Slot, d ≠ c → s.cu.catalogue.clients[d].enabled = true → s.cu.catalogue.clients[d].address ≠ r.address) := by
  simp [State.addressTaken, State.inUse, State.addressOf, and_assoc, -Fin.getElem_fin]

theorem parseParameters_of_unfit {tp rate rw ml rc g1 g0 w1 w0 au : Byte} {rest : List Byte}
    (unfit : ¬ ((1 ≤ tp.toNat ∧ tp.toNat ≤ 250) ∧ rate.toNat ≤ 7 ∧ (2 ≤ rw.toNat ∧ rw.toNat ≤ 63) ∧ (1 ≤ ml.toNat ∧ ml.toNat ≤ 15) ∧
      1 ≤ rc.toNat)) : parseParameters (tp :: rate :: rw :: ml :: rc :: g1 :: g0 :: w1 :: w0 :: au :: rest) = none := by
  refine Option.eq_none_iff_forall_ne_some.2 fun p read => unfit ?_
  obtain ⟨⟨tp', rate', rw', ml', rc', g1', g0', w1', w0', au', rest', same, tick, link, window, limit, interval, -⟩,
    tickFits, windowFits, limitFits, intervalFits, -⟩ := parseParameters_eq_some.1 read
  simp only [List.cons.injEq] at same
  obtain ⟨rfl, rfl, rfl, rfl, rfl, -⟩ := same
  have code : rate.toNat ≤ 7 := by
    subst link
    cases p.linkRate <;> decide
  exact ⟨tick ▸ tickFits, code, window ▸ windowFits, limit ▸ limitFits, interval ▸ intervalFits⟩

/-- Settles O46, one case for each command and outcome. -/
theorem editsReplaceCatalogue : Obligations.EditsReplaceCatalogue := by
  unfold Obligations.EditsReplaceCatalogue
  intro s mode thawed idle
  have editable : Editable s := ⟨mode, thawed, idle⟩
  intro cat
  refine ⟨fun z r en cap cl pol t1 t0 lim sc rest ready zone fields => ?zone, fun c en ad p1 p0 lim rest ready client fields => ?client,
    fun p tp rate rw ml rc g1 g0 w1 w0 au rest ready fields => ?parameters, fun ready => ?clear, fun ready => ?revert⟩
  case zone =>
    have bytes : blockArgs s.si.commandBlock 1 = _ := fields
    refine ⟨fun fits enabled capacity cls policy term limit closed => exec_edit rfl (fun _ _ => rfl) ready editable ?_,
      fun unfit => exec_edit rfl (fun _ _ => rfl) ready editable ?_⟩
    · rw [zoneOfByte_arg zone, bytes, parseZoneRecord_of_fits fits enabled capacity cls policy term limit closed]
      exact respond_eq_decided (s := s)
        (t := { taken s with cu := { s.cu with catalogue := { cat with zones := cat.zones.set z r }, dirty := true } }) rfl _ _
    · rw [zoneOfByte_arg zone, bytes, parseZoneRecord_of_unfit unfit]
      exact taken_respond s _ _
  case client =>
    have bytes : blockArgs s.si.commandBlock 1 = _ := fields
    intro r fits
    have wholly : fits ↔ (1 ≤ ad.toNat ∧ ad.toNat ≤ 62 ∧ 1 ≤ lim.toNat ∧ lim.toNat ≤ 4) ∧ ¬ (taken s).addressTaken c r = true := by
      rw [addressTaken_iff, not_not]
      exact ⟨fun ⟨l, h, m, n, free⟩ => ⟨⟨l, h, m, n⟩, free⟩, fun ⟨⟨l, h, m, n⟩, free⟩ => ⟨l, h, m, n, free⟩⟩
    refine ⟨fun fit => exec_edit rfl (fun _ _ => rfl) ready editable ?_, fun unfit => exec_edit rfl (fun _ _ => rfl) ready editable ?_⟩
    · obtain ⟨inRange, free⟩ := wholly.1 fit
      rw [slotOfByte_arg client, bytes, parseClientRecord_of_fits inRange]
      exact (if_neg free).trans (respond_eq_decided (s := s)
        (t := catalogued (taken s) { cat with clients := cat.clients.set c r } true) rfl _ _)
    · by_cases inRange : 1 ≤ ad.toNat ∧ ad.toNat ≤ 62 ∧ 1 ≤ lim.toNat ∧ lim.toNat ≤ 4
      · have shared : (taken s).addressTaken c r = true := by
          by_contra free
          exact unfit (wholly.2 ⟨inRange, free⟩)
        rw [slotOfByte_arg client, bytes, parseClientRecord_of_fits inRange]
        exact (if_pos shared).trans (taken_respond s _ _)
      · rw [slotOfByte_arg client, bytes, parseClientRecord_of_unfit inRange]
        exact taken_respond s _ _
  case parameters =>
    have bytes : blockArgs s.si.commandBlock 0 = _ := fields
    intro fits
    refine ⟨fun fit tick link window limit interval grace alarm auto => exec_edit rfl (fun _ _ => rfl) ready editable ?_,
      fun unfit => exec_edit rfl (fun _ _ => rfl) ready editable ?_⟩
    · obtain ⟨tickFits, -, windowFits, limitFits, intervalFits⟩ := fit
      have valid : p.Valid := by
        have bound := rc.isLt
        rw [Parameters.Valid, tick, window, limit, interval]
        exact ⟨tickFits, windowFits, limitFits, intervalFits, by omega⟩
      have read := parseParameters_eq_some.2
        ⟨⟨tp, rate, rw, ml, rc, g1, g0, w1, w0, au, rest, rfl, tick, link, window, limit, interval, grace, alarm, auto⟩, valid⟩
      rw [bytes, read]
      exact respond_eq_decided (s := s) (t := { taken s with cu := { s.cu with catalogue := { cat with params := p }, dirty := true } }) rfl _ _
    · rw [bytes, parseParameters_of_unfit unfit]
      exact taken_respond s _ _
  case clear =>
    refine exec_edit rfl (fun _ _ => rfl) ready editable ?_
    exact respond_eq_decided (s := s) (t := catalogued (taken s) blankCatalogue true) rfl _ _
  case revert =>
    refine ⟨fun none => exec_edit rfl (fun _ _ => rfl) ready editable ?_, fun b g active =>
      ⟨fun g' cat' valid => exec_edit rfl (fun _ _ => rfl) ready editable ?_, fun invalid => exec_edit rfl (fun _ _ => rfl) ready editable ?_⟩⟩
    · rw [show (taken s).cm.active = Option.none from none]
      exact taken_respond s _ _
    · rw [show (taken s).cm.active = some (b, g) from active]
      dsimp only
      rw [show classifyBank (taken s).cm.nv b = _ from valid]
      exact respond_eq_decided (s := s) (t := catalogued (taken s) cat' false) rfl _ _
    · rw [show (taken s).cm.active = some (b, g) from active]
      dsimp only
      cases condition : classifyBank (taken s).cm.nv b with
      | valid g' cat' => exact absurd condition (invalid g' cat')
      | unmarked | corrupt => exact respond_eq_decided (s := s) (t := (taken s).postAttention (.nvFault b)) rfl _ _

/-! ### Refusals (O53) -/

/-- A row that is a write to EXECUTE with a command's code. -/
abbrev IsCommand (row : Instr) (code : Byte) (decision : Block → State → State) : Prop :=
  ∀ s : State, exec row s = .next (s.execute code decision)

theorem configRows_commands : ∀ r ∈ configRows, ∃ decision rule : Block → State → State, IsCommand r.1 r.2 decision ∧
    ∀ copy u, decision copy u = u.checkEdit (rule copy u) := by
  simp only [configRows, List.forall_mem_cons]
  exact ⟨⟨_, _, fun _ => rfl, fun _ _ => rfl⟩, ⟨_, _, fun _ => rfl, fun _ _ => rfl⟩, ⟨_, _, fun _ => rfl, fun _ _ => rfl⟩,
    ⟨_, _, fun _ => rfl, fun _ _ => rfl⟩, ⟨_, _, fun _ => rfl, fun _ _ => rfl⟩, ⟨_, _, fun _ => rfl, fun _ _ => rfl⟩,
    ⟨_, _, fun _ => rfl, fun _ _ => rfl⟩, List.forall_mem_nil _⟩

theorem serviceRows_commands : ∀ r ∈ serviceRows, ∃ decision rule : Block → State → State, IsCommand r.1 r.2 decision ∧
    ∀ copy u, decision copy u = u.checkInService (rule copy u) := by
  simp only [serviceRows, List.forall_mem_cons]
  exact ⟨⟨_, _, fun _ => rfl, fun _ _ => rfl⟩, ⟨_, _, fun _ => rfl, fun _ _ => rfl⟩, ⟨_, _, fun _ => rfl, fun _ _ => rfl⟩,
    ⟨_, _, fun _ => rfl, fun _ _ => rfl⟩, ⟨_, _, fun _ => rfl, fun _ _ => rfl⟩, ⟨_, _, fun _ => rfl, fun _ _ => rfl⟩,
    ⟨_, _, fun _ => rfl, fun _ _ => rfl⟩, List.forall_mem_nil _⟩

theorem runningRows_commands : ∀ r ∈ runningRows, ∃ decision rule : Block → State → State, IsCommand r.1 r.2 decision ∧
    ∀ copy u, decision copy u = u.checkNotBoot (rule copy u) := by
  simp only [runningRows, List.forall_mem_cons]
  exact ⟨⟨_, _, fun _ => rfl, fun _ _ => rfl⟩, ⟨_, _, fun _ => rfl, fun _ _ => rfl⟩, ⟨_, _, fun _ => rfl, fun _ _ => rfl⟩,
    ⟨_, _, fun _ => rfl, fun _ _ => rfl⟩, ⟨_, _, fun _ => rfl, fun _ _ => rfl⟩, ⟨_, _, fun _ => rfl, fun _ _ => rfl⟩,
    ⟨_, _, fun _ => rfl, fun _ _ => rfl⟩, ⟨_, _, fun _ => rfl, fun _ _ => rfl⟩, ⟨_, _, fun _ => rfl, fun _ _ => rfl⟩,
    ⟨_, _, fun _ => rfl, fun _ _ => rfl⟩, ⟨_, _, fun _ => rfl, fun _ _ => rfl⟩, ⟨_, _, fun _ => rfl, fun _ _ => rfl⟩,
    ⟨_, _, fun _ => rfl, fun _ _ => rfl⟩, List.forall_mem_nil _⟩

theorem checkEdit_of_wrong_mode {s : State} (mode : s.mc.mode ≠ .config) (accepted : State) :
    (taken s).checkEdit accepted = refusedWith s .wrongMode [] :=
  (if_pos mode).trans (taken_respond s _ _)

theorem checkEdit_of_frozen {s : State} (mode : s.mc.mode = .config) (frozen : s.cu.freeze = true) (accepted : State) :
    (taken s).checkEdit accepted = refusedWith s .frozen [] :=
  (if_neg (not_not.2 mode)).trans ((if_pos frozen).trans (taken_respond s _ _))

theorem checkEdit_of_running {s : State} (mode : s.mc.mode = .config) (thawed : s.cu.freeze = false) (running : s.cm.commit ≠ none)
    (accepted : State) : (taken s).checkEdit accepted = refusedWith s .busy [] :=
  (if_neg (not_not.2 mode)).trans ((if_neg (Bool.eq_false_iff.1 thawed)).trans
    ((if_pos (Option.isSome_iff_ne_none.2 running)).trans (taken_respond s _ _)))

theorem zoneOfByte_arg_none {s : State} {i : Nat} (h : 128 ≤ (arg s i).toNat) : zoneOfByte (blockArg s.si.commandBlock i) = none :=
  zoneOfByte_none h

theorem slotOfByte_arg_none {s : State} {i : Nat} (h : 32 ≤ (arg s i).toNat) : slotOfByte (blockArg s.si.commandBlock i) = none :=
  slotOfByte_none h

theorem bundleOfByte_arg_none {s : State} {i : Nat} (h : 64 ≤ (arg s i).toNat) : bundleOfByte (blockArg s.si.commandBlock i) = none :=
  bundleOfByte_none h

theorem policyOfByte_none {b : Byte} (h : 2 ≤ b.toNat) : policyOfByte b = none := by
  have notFree : b ≠ 0x00#8 := fun same => by simp [same] at h
  have notFence : b ≠ 0x01#8 := fun same => by simp [same] at h
  rw [policyOfByte, if_neg notFree, if_neg notFence]

theorem policyOfByte_arg_none {s : State} {i : Nat} (h : 2 ≤ (arg s i).toNat) : policyOfByte (blockArg s.si.commandBlock i) = none :=
  policyOfByte_none h

theorem byte_of_lt_two {b : Byte} (h : b.toNat < 2) : b = 0x00#8 ∨ b = 0x01#8 := by
  rcases Nat.lt_or_ge b.toNat 1 with zero | one
  · exact .inl (BitVec.eq_of_toNat_eq (show b.toNat = 0 by omega))
  · exact .inr (BitVec.eq_of_toNat_eq (show b.toNat = 1 by omega))

theorem policyOfByte_arg_some {s : State} {i : Nat} (h : (arg s i).toNat < 2) : ∃ p, policyOfByte (blockArg s.si.commandBlock i) = some p := by
  obtain free | fence := byte_of_lt_two h
  · exact ⟨.free, policyOfByte_arg free⟩
  · exact ⟨.fence, policyOfByte_arg fence⟩

theorem startChoiceOfByte_none {b : Byte} (h : 2 ≤ b.toNat) : startChoiceOfByte b = none := by
  have notAuto : b ≠ 0x00#8 := fun same => by simp [same] at h
  have notConfig : b ≠ 0x01#8 := fun same => by simp [same] at h
  rw [startChoiceOfByte, if_neg notAuto, if_neg notConfig]

theorem not_inUse {s : State} {c : Slot} (h : s.cu.catalogue.clients[c].enabled = false) : (!(taken s).inUse c) = true := by
  simpa [State.inUse, taken, -Fin.getElem_fin] using h

/-- Settles O53, mode and freeze by the command's group, and each argument by the command that reads it. -/
theorem commandsAreRefused : Obligations.CommandsAreRefused := by
  unfold Obligations.CommandsAreRefused
  intro s
  have refused : (taken s).respond .badArgument [] = refusedWith s .badArgument [] := taken_respond s _ _
  have absent : (taken s).respond .notFound [] = refusedWith s .notFound [] := taken_respond s _ _
  refine ⟨fun r row ready => ?config, fun mode thawed idle => ⟨fun ready wide => ?setZone, fun ready wide => ?setClient⟩,
    fun r row ready mode => ?service, fun r row ready mode => ?running, fun ready mode => ?start, fun ready mode => ?stop, ?zones,
    fun ready mode out => ?revoke, fun ready mode out => ?withdraw, fun mode => ⟨?zoneReads, ?clients, fun ready wide => ?readBundle,
      fun ready wide => ?bar, fun ready wide => ?restart, fun c unused client => ⟨fun ready small => ?barUnused, fun ready => ?unbarUnused,
        fun ready => ?readUnused⟩⟩⟩
  case config =>
    obtain ⟨decision, rule, command, check⟩ := configRows_commands r row
    have run := exec_of_ready (command s) ready
    rw [check] at run
    exact ⟨fun mode => run.trans (congrArg _ (checkEdit_of_wrong_mode mode _)),
      fun mode frozen => run.trans (congrArg _ (checkEdit_of_frozen mode frozen _)),
      fun mode thawed running => run.trans (congrArg _ (checkEdit_of_running mode thawed running _))⟩
  case setZone =>
    refine exec_edit rfl (fun _ _ => rfl) ready ⟨mode, thawed, idle⟩ ?_
    rw [zoneOfByte_arg_none wide]
    exact refused
  case setClient =>
    refine exec_edit rfl (fun _ _ => rfl) ready ⟨mode, thawed, idle⟩ ?_
    rw [slotOfByte_arg_none wide]
    exact refused
  case service =>
    obtain ⟨decision, rule, command, check⟩ := serviceRows_commands r row
    rw [exec_of_ready (command s) ready, check, checkInService_of_not_served mode]
  case running =>
    obtain ⟨decision, rule, command, check⟩ := runningRows_commands r row
    rw [exec_of_ready (command s) ready, check, checkNotBoot_of_boot mode]
  case start => exact (exec_of_ready rfl ready).trans (congrArg _ ((if_pos mode).trans (taken_respond s _ _)))
  case stop => exact (exec_of_ready rfl ready).trans (congrArg _ ((if_pos mode).trans (taken_respond s _ _)))
  case zones =>
    simp only [List.forall_mem_cons]
    refine ⟨fun ready mode wide => exec_served rfl (fun _ _ => rfl) ready mode ?_,
      fun ready mode wide => exec_served rfl (fun _ _ => rfl) ready mode ?_,
      fun ready mode wide => exec_served rfl (fun _ _ => rfl) ready mode ?_, List.forall_mem_nil _⟩
    · rw [zoneOfByte_arg_none wide]; exact refused
    · rw [zoneOfByte_arg_none wide]; exact refused
    · rw [zoneOfByte_arg_none wide]; exact refused
  case revoke =>
    refine exec_served rfl (fun _ _ => rfl) ready mode ?_
    obtain bundle | policy := out
    · rw [bundleOfByte_arg_none bundle]; exact refused
    · rw [policyOfByte_arg_none policy]
      cases bundleOfByte (blockArg s.si.commandBlock 0) with
      | none => exact refused
      | some b => exact refused
  case withdraw =>
    refine exec_served rfl (fun _ _ => rfl) ready mode ?_
    rw [slotOfByte_arg_none out]; exact refused
  case zoneReads =>
    simp only [List.forall_mem_cons]
    refine ⟨fun ready wide => exec_running rfl (fun _ _ => rfl) ready mode ?_, fun ready wide => exec_running rfl (fun _ _ => rfl) ready mode ?_,
      List.forall_mem_nil _⟩
    · rw [zoneOfByte_arg_none wide]; exact refused
    · rw [zoneOfByte_arg_none wide]; exact refused
  case clients =>
    simp only [List.forall_mem_cons]
    refine ⟨fun ready wide => exec_running rfl (fun _ _ => rfl) ready mode ?_, fun ready wide => exec_running rfl (fun _ _ => rfl) ready mode ?_,
      fun ready wide => exec_running rfl (fun _ _ => rfl) ready mode ?_, fun ready wide => exec_running rfl (fun _ _ => rfl) ready mode ?_,
      List.forall_mem_nil _⟩
    · rw [slotOfByte_arg_none wide]; exact refused
    · rw [slotOfByte_arg_none wide]; exact refused
    · rw [slotOfByte_arg_none wide]; exact refused
    · rw [slotOfByte_arg_none wide]; exact refused
  case readBundle =>
    refine exec_running rfl (fun _ _ => rfl) ready mode ?_
    rw [bundleOfByte_arg_none wide]; exact refused
  case bar =>
    refine exec_running rfl (fun _ _ => rfl) ready mode ?_
    rw [policyOfByte_arg_none wide]
    cases slotOfByte (blockArg s.si.commandBlock 0) with
    | none => exact refused
    | some c => exact refused
  case restart =>
    refine exec_running rfl (fun _ _ => rfl) ready mode ?_
    rw [show startChoiceOfByte (blockArg s.si.commandBlock 0) = none from startChoiceOfByte_none wide]; exact refused
  case barUnused =>
    obtain ⟨p, policy⟩ := policyOfByte_arg_some small
    refine exec_running rfl (fun _ _ => rfl) ready mode ?_
    rw [slotOfByte_arg client, policy]
    exact (if_pos (not_inUse unused)).trans absent
  case unbarUnused =>
    refine exec_running rfl (fun _ _ => rfl) ready mode ?_
    rw [slotOfByte_arg client]
    exact (if_pos (not_inUse unused)).trans absent
  case readUnused =>
    refine exec_running rfl (fun _ _ => rfl) ready mode ?_
    rw [slotOfByte_arg client]
    exact (if_pos (not_inUse unused)).trans absent

end Sys2Proof.Machine

/-! The supervisor port: its window and transactions (O56), and the mailbox (O55). -/

namespace Sys2Proof.Machine

open Sys2Proof.Claim

/-! ### The window (Table 11-8) -/

theorem status0_eq (s : State) : s.status0 =
    0b00#2 ++ BitVec.ofBool s.mc.holdLine ++ BitVec.ofBool s.mc.holdCommand ++ 0b00#2 ++ modeCode s.mc.mode := by
  have mode : modeBits s.mc.mode = 0b000000#6 ++ modeCode s.mc.mode := by
    cases s.mc.mode <;> decide
  have bits : ∀ (line command : Bool) (mode : BitVec 2), (0b000000#6 ++ mode) ||| flagBit command 4 ||| flagBit line 5 =
      0b00#2 ++ BitVec.ofBool line ++ BitVec.ofBool command ++ 0b00#2 ++ mode := by decide
  rw [State.status0, mode, bits]

theorem status1_eq (s : State) : s.status1 = BitVec.ofBool s.attn.overflow ++ BitVec.ofBool s.si.overrun ++ BitVec.ofBool s.cu.dirty ++
    BitVec.ofBool s.cu.freeze ++ commitCode s.cm.commitState ++ mailboxCode s.si.mailbox := by
  have commit : commitBits s.cm.commitState = 0b0000#4 ++ commitCode s.cm.commitState ++ 0b00#2 := by
    cases s.cm.commitState <;> decide
  have mailbox : mailboxBits s.si.mailbox = 0b000000#6 ++ mailboxCode s.si.mailbox := by
    cases s.si.mailbox with
    | busy copy decided =>
      show 1#8 = 0b000000#6 ++ 0b01#2
      decide
    | idle | done => decide
  have bits : ∀ (overflow overrun dirty freeze : Bool) (commit mailbox : BitVec 2),
      (0b000000#6 ++ mailbox) ||| (0b0000#4 ++ commit ++ 0b00#2) ||| flagBit freeze 4 ||| flagBit dirty 5 ||| flagBit overrun 6 |||
        flagBit overflow 7 = BitVec.ofBool overflow ++ BitVec.ofBool overrun ++ BitVec.ofBool dirty ++ BitVec.ofBool freeze ++ commit ++
          mailbox := by decide
  rw [State.status1, commit, mailbox, bits]

theorem alertEnableByte_eq (s : State) : s.alertEnableByte =
    0b000000#6 ++ BitVec.ofBool s.si.completionSwitch ++ BitVec.ofBool s.si.attentionSwitch := by
  have bits : ∀ attention completion : Bool, flagBit attention 0 ||| flagBit completion 1 =
      0b000000#6 ++ BitVec.ofBool completion ++ BitVec.ofBool attention := by decide
  exact bits _ _

theorem windowByte_command (s : State) {a : PortAddress} (low : 0x09 ≤ a.toNat) (high : a.toNat < 0x29) :
    s.windowByte a = s.si.commandBlock.toList.getD (a.toNat - 0x09) 0#8 := by
  have apart : ∀ b : PortAddress, b.toNat < 0x09 → a ≠ b := fun b below same => by subst same; omega
  rw [State.windowByte, if_neg (apart 0x00#7 (by decide)), if_neg (apart 0x01#7 (by decide)), if_neg (apart 0x02#7 (by decide)),
    if_neg (apart 0x03#7 (by decide)), if_neg (apart 0x04#7 (by decide)), if_neg (by omega), if_neg (apart 0x08#7 (by decide)), if_pos high]

/-- The bytes from 2AH on. -/
theorem windowByte_above (s : State) {a : PortAddress} (low : 0x2A ≤ a.toNat) :
    s.windowByte a = if a.toNat < 0x4A then s.si.responseBlock.toList.getD (a.toNat - 0x2A) 0#8 else 0#8 := by
  have apart : ∀ b : PortAddress, b.toNat < 0x2A → a ≠ b := fun b below same => by subst same; omega
  rw [State.windowByte, if_neg (apart 0x00#7 (by decide)), if_neg (apart 0x01#7 (by decide)), if_neg (apart 0x02#7 (by decide)),
    if_neg (apart 0x03#7 (by decide)), if_neg (apart 0x04#7 (by decide)), if_neg (by omega), if_neg (apart 0x08#7 (by decide)), if_neg (by omega),
    if_neg (apart 0x29#7 (by decide))]

theorem block_getD (block : Block) (i : Fin 32) : block.toList.getD i.val 0#8 = block[i] := by
  simp [List.getD_eq_getElem?_getD]

theorem windowShows (s : State) : WindowShows s where
  status0 := (if_pos rfl).trans (status0_eq s)
  status1 := (if_neg (by decide)).trans ((if_pos rfl).trans (status1_eq s))
  cause := by
    cases cause : s.mc.cause <;> simp [State.windowByte, cause, causeByte]
  attentions := by simp [State.windowByte]
  clock := by simp [State.windowByte, wordByte_eq]
  latch := by simp [State.windowByte, wordByte_eq]
  alertEnable := by
    rw [← alertEnableByte_eq]
    simp [State.windowByte]
  command i := by
    have place : (BitVec.ofNat 7 (0x09 + i.val)).toNat = 0x09 + i.val := by rw [BitVec.toNat_ofNat]; omega
    rw [windowByte_command s (by omega) (by omega), place, Nat.add_sub_cancel_left, block_getD]
  execute := by simp [State.windowByte]
  response i := by
    have place : (BitVec.ofNat 7 (0x2A + i.val)).toNat = 0x2A + i.val := by rw [BitVec.toNat_ofNat]; omega
    rw [windowByte_above s (by omega), if_pos (by omega), place, Nat.add_sub_cancel_left, block_getD]
  unassigned a high := by rw [windowByte_above s (by omega), if_neg (by omega)]

/-! ### Reads (R143 to R146) -/

theorem readNext_eq_byteRead (s : State) : s.readNext = byteRead s := by
  by_cases reading : ∃ a, s.si.port = .reading a
  · obtain ⟨a, reading⟩ := reading
    rw [readNext_reading s reading, readEffect_eq, byteRead, reading]
  · rw [readNext_other s fun a h => reading ⟨a, h⟩, byteRead]
    split
    · exact absurd ⟨_, ‹_›⟩ reading
    all_goals rfl

theorem readBytes_eq (n : Nat) : ∀ s : State, State.readBytes n s = byteRead^[n] s := by
  induction n with
  | zero => exact fun s => rfl
  | succ n ih => exact fun s => by rw [State.readBytes, ih, readNext_eq_byteRead, Function.iterate_succ_apply]

theorem readThrough_reading {s : State} {a : PortAddress} (h : s.si.port = .reading a) (target : PortAddress) :
    s.readThrough target = byteRead^[(target - a).toNat + 1] s := by
  rw [State.readThrough, h]
  exact readBytes_eq _ s

theorem readThrough_other {s : State} (h : ∀ a, s.si.port ≠ .reading a) (target : PortAddress) : s.readThrough target = s := by
  unfold State.readThrough
  split
  · exact absurd ‹_› (h _)
  all_goals rfl

theorem readRows_read : ∀ r ∈ readRows, ∀ s : State, exec r.1 s = .next (s.readThrough r.2) := by
  simp only [readRows, List.forall_mem_cons]
  exact ⟨fun _ => rfl, fun _ => rfl, fun _ => rfl, List.forall_mem_nil _⟩

/-- A read of the byte at the current address. -/
theorem readThrough_here {s : State} {a : PortAddress} (h : s.si.port = .reading a) : s.readThrough a = byteRead s := by
  rw [readThrough_reading h, BitVec.sub_self]
  rfl

theorem byteRead_reading {s : State} {a : PortAddress} (h : s.si.port = .reading a) : byteRead s =
    { s with si := { s.si with
        sdo := some (s.windowByte a)
        port := .reading (a + 1#7)
        overrun := if a = 0x01#7 then false else s.si.overrun
        latch := if a = 0x04#7 then s.lt.clock else s.si.latch
        mailbox := if a = 0x2A#7 ∧ s.si.mailbox = .done then .idle else s.si.mailbox } } := by
  rw [byteRead, h]

/-! ### Transactions (R143) -/

theorem publish_of_none {s : State} (h : ∀ copy r, s.si.mailbox ≠ .busy copy (some r)) : s.publish = s := by
  unfold State.publish
  split
  · exact absurd ‹_› (h _ _)
  all_goals rfl

theorem exec_begin {s : State} (rst : s.mc.rst = false) (inactive : s.si.port = .inactive) (byte : Byte) :
    exec (.transactionBegin (some byte)) s = .next (s.publish.setPort (begun byte)) := if_pos ⟨rst, inactive⟩

theorem exec_begin_inert {s : State} (rst : s.mc.rst = false) (inactive : s.si.port = .inactive) :
    exec (.transactionBegin none) s = .next (s.publish.setPort .inert) := if_pos ⟨rst, inactive⟩

theorem exec_writeRegister_command {s : State} {a : PortAddress} (h : s.si.port = .writing a) {i : Fin 32} (place : a.toNat = 9 + i.val)
    (value : Byte) : exec (.writeRegister value) s = .next { s with si := { s.si with
      commandBlock := s.si.commandBlock.set i value, port := .writing (a + 1#7) } } := by
  have own : ¬ (a = 0x08#7 ∨ a = 0x29#7) := by
    rintro (rfl | rfl)
    · exact absurd place (by simp; omega)
    · exact absurd place (by simp; omega)
  have index : a.toNat - 0x09 = i.val := by omega
  have stored : s.si.commandBlock.set (a.toNat - 0x09) value (by omega) = s.si.commandBlock.set i value := by simp only [index]
  show execWriteRegister value s = _
  rw [execWriteRegister, h]
  dsimp only
  rw [if_neg own, dif_pos (by omega), stored]

theorem exec_writeRegister_ignored {s : State} {a : PortAddress} (h : s.si.port = .writing a) (out : a.toNat < 0x08 ∨ 0x2A ≤ a.toNat)
    (value : Byte) : exec (.writeRegister value) s = .next { s with si := { s.si with port := .writing (a + 1#7) } } := by
  have own : ¬ (a = 0x08#7 ∨ a = 0x29#7) := by
    rintro (rfl | rfl)
    · exact absurd out (by decide)
    · exact absurd out (by decide)
  show execWriteRegister value s = _
  rw [execWriteRegister, h]
  dsimp only
  rw [if_neg own, dif_neg (by omega), State.setPort]

theorem alertActive_iff (s : State) : s.alertActive = true ↔ (s.si.attentionSwitch = true ∧ s.attn.entries ≠ []) ∨
    (s.si.completionSwitch = true ∧ s.si.mailbox = .done) := by
  simp [State.alertActive]

/-- Settles O56, from the window, the reads and the rows of a transaction. -/
theorem transactionsReadAndWriteWindow : Obligations.TransactionsReadAndWriteWindow := by
  unfold Obligations.TransactionsReadAndWriteWindow
  intro s
  refine ⟨windowShows s, fun r row => ⟨fun a reading => ?_, fun other => ?_⟩, sdoDriven_iff s, fun rst inactive none byte => ⟨?_, ?_⟩,
    fun shut first => ?_, fun value port => ?_, fun value i port => ?_, fun value a port out => ?_, fun reading => ?_, alertActive_iff s⟩
  · rw [readRows_read r row, readThrough_reading reading]
  · rw [readRows_read r row, readThrough_other other]
  · rw [exec_begin rst inactive, publish_of_none none, State.setPort]
  · rw [exec_begin_inert rst inactive, publish_of_none none, State.setPort]
  · refine if_neg fun ⟨rst, inactive⟩ => ?_
    obtain asserted | active := shut
    · rw [rst] at asserted
      exact Bool.false_ne_true asserted
    · exact active inactive
  · exact if_pos port
  · have place : (BitVec.ofNat 7 (9 + i.val)).toNat = 9 + i.val := by rw [BitVec.toNat_ofNat]; omega
    have next : BitVec.ofNat 7 (9 + i.val) + 1#7 = BitVec.ofNat 7 (10 + i.val) := BitVec.eq_of_toNat_eq (by simp; omega)
    rw [exec_writeRegister_command port place, next]
  · exact exec_writeRegister_ignored port out value
  · have clock : s.windowByte 0x04#7 = s.lt.clock.extractLsb' 24 8 := (windowShows s).clock
    rw [readRows_read (.readLeaseClockLatch, 0x04#7) (by simp), readThrough_here reading, byteRead_reading reading, clock]
    exact Eq.refl _

/-! ### The mailbox (O55) -/

theorem resultByte_eq (r : Result) : resultByte r = resultCode r := by
  cases r <;> rfl

theorem responseBlockOf_holds (code : Byte) {r : Response} (fits : r.contents.length ≤ 30) :
    HoldsResponse (responseBlockOf code r) (resultCode r.result) code r.contents := by
  have bytes : (responseBlockOf code r).toList = ((resultByte r.result :: code :: r.contents) ++ List.replicate 32 0#8).take 32 := rfl
  rw [HoldsResponse, bytes, resultByte_eq, List.take_append, List.take_of_length_le (by simp; omega), List.take_replicate]
  simp only [List.length_cons]
  congr 2
  omega

theorem publish_of_decided {s : State} {copy : Block} {r : Response} (mailbox : s.si.mailbox = .busy copy (some r))
    (inactive : s.si.port = .inactive) :
    s.publish = { s with si := { s.si with responseBlock := responseBlockOf copy[0] r, mailbox := .done } } := by
  rw [State.publish, mailbox]
  exact if_pos inactive

theorem publish_of_active {s : State} (active : s.si.port ≠ .inactive) : s.publish = s := by
  unfold State.publish
  split
  · exact if_neg active
  all_goals rfl

theorem exec_transactionEnd {s : State} (active : s.si.port ≠ .inactive) :
    exec .transactionEnd s = .next (State.publish { s with si := { s.si with port := .inactive, sdo := none } }) := if_neg active

theorem commandCodes_inUse : ∀ code ∈ commandCodes, code ∈ codesInUse := by decide

/-- Settles O55, from what a publication does and when it is made. -/
theorem mailboxPublishesResponses : Obligations.MailboxPublishesResponses := by
  unfold Obligations.MailboxPublishesResponses
  intro s
  refine ⟨fun port free unknown => ?bad, fun port full => ?overrun, fun copy r mailbox fits => ⟨responseBlockOf copy[0] r,
    responseBlockOf_holds _ fits, fun inactive => ?published, fun inactive rst byte => ⟨?begins, ?inert⟩, fun active => ⟨?waits, ?ends⟩⟩,
    fun none => ⟨?nothing, fun active => ?closes⟩, fun reading => ?result⟩
  case bad =>
    have here : s.atExecute = true := by simp [State.atExecute, port]
    have notBusy : ¬ s.mailboxBusy = true := Bool.eq_false_iff.1 free
    have noCommand : blockCode s.si.commandBlock ∉ commandCodes := mt (commandCodes_inUse _) unknown
    show execBadCommand s = _
    rw [execBadCommand, if_pos here, if_neg notBusy, if_neg noCommand]
    exact congrArg _ (taken_respond s _ _)
  case overrun =>
    have both : (s.atExecute && s.mailboxBusy) = true := Bool.and_eq_true_iff.2 ⟨by simp [State.atExecute, port], full⟩
    exact if_pos both
  case published => exact congrArg Host.Outcome.next (publish_of_decided mailbox inactive)
  case begins => rw [exec_begin rst inactive, publish_of_decided mailbox inactive, State.setPort]
  case inert => rw [exec_begin_inert rst inactive, publish_of_decided mailbox inactive, State.setPort]
  case waits => exact congrArg Host.Outcome.next (publish_of_active active)
  case ends =>
    rw [exec_transactionEnd active, publish_of_decided (s := { s with si := { s.si with port := .inactive, sdo := none } }) mailbox rfl]
  case nothing => exact congrArg Host.Outcome.next (publish_of_none none)
  case closes =>
    rw [exec_transactionEnd active, publish_of_none (s := { s with si := { s.si with port := .inactive, sdo := Option.none } }) none]
  case result =>
    have byte : s.windowByte 0x2A#7 = s.si.responseBlock[0] := (windowShows s).response 0
    rw [readRows_read (.readResultByte, 0x2A#7) (by simp), readThrough_here reading, byteRead_reading reading, byte]
    simp

end Sys2Proof.Machine

/-! The overrun flag (O54): what sets it, what clears it, and that nothing else does. -/

namespace Sys2Proof.Machine

open Sys2Proof.Claim

/-! ### What leaves the Supervisor Interface as it is -/

theorem failExchange_si (s : State) (x : Exchange) : (s.failExchange x).si = s.si := by
  unfold State.failExchange
  dsimp only
  split
  · exact (miss_tables s x.target).si
  · rfl

theorem takeReply_si (s : State) (x : Exchange) (reply : Reply) : (s.takeReply x reply).si = s.si := by
  unfold State.takeReply
  split
  · cases reply with
    | idle ack => exact (acceptReply_tables s x.target ack).si
    | request seq ack req => exact (requestReply_tables s x.target seq ack req).si
  · rfl

theorem judgeReply_si (s : State) (x : Exchange) (f : Frame) : (s.judgeReply x f).si = s.si := by
  unfold State.judgeReply
  split
  · exact takeReply_si s x _
  · exact failExchange_si s x

theorem takeReport_si (s : State) (rep : Report) : (s.takeReport rep).si = s.si := by
  unfold State.takeReport
  split
  · split
    all_goals rfl
  · split
    · rfl
    · exact judgeReply_si s _ _
    · exact failExchange_si s _
  all_goals rfl

theorem takeReports_si (reps : List Report) : ∀ s : State, (s.takeReports reps).si = s.si := by
  induction reps with
  | nil => exact fun s => rfl
  | cons rep reps ih => exact fun s => (ih (s.takeReport rep)).trans (takeReport_si s rep)

theorem abandonFrame_si (s : State) (cause : AbandonCause) (r : Receiver) : (s.abandonFrame cause r).si = s.si := by
  unfold State.abandonFrame
  dsimp only
  split
  · exact takeReport_si _ _
  · rfl

theorem deliverReply_si (s : State) (reply : Reply) : (s.deliverReply reply).si = s.si := by
  unfold State.deliverReply
  split
  · exact takeReply_si _ _ _
  all_goals rfl

theorem endTransmission_si (s : State) : s.endTransmission.si = s.si := by
  unfold State.endTransmission
  dsimp only
  split
  all_goals rfl

theorem setLine_si (s : State) (asserted : Bool) : (s.setLine asserted).si = s.si := by
  unfold State.setLine
  dsimp only
  split
  · unfold State.followReasons
    split
    · rfl
    · split
      · exact requestScan_si _
      · rfl
  · rfl

theorem examineWaits_si (s : State) : s.examineWaits.si = s.si := (examineWaits_tables s).si

theorem stopOperation_si (s : State) : s.stopOperation.si = s.si := by
  unfold State.stopOperation
  split
  all_goals rfl

theorem beginCommit_si (s : State) : s.beginCommit.si = s.si := by
  unfold State.beginCommit
  rfl

/-! ### The overrun flag, once set -/

/-- The overrun flag stays set (R149). -/
def KeepsOverrun (s t : State) : Prop := s.si.overrun = true → t.si.overrun = true

namespace KeepsOverrun

variable {s t : State}

theorem of_si (h : t.si = s.si) : KeepsOverrun s t := fun set => by rw [h]; exact set

theorem respond (h : KeepsOverrun s t) (r : Result) (contents : List Byte) : KeepsOverrun s (t.respond r contents) := fun set => by
  unfold State.respond
  split
  all_goals exact h set

theorem publish (h : KeepsOverrun s t) : KeepsOverrun s t.publish := fun set => by
  unfold State.publish
  split
  · split
    all_goals exact h set
  all_goals exact h set

theorem refusal (s : State) (r : Result) (contents : List Byte) : KeepsOverrun s (s.respond r contents) := respond (of_si rfl) r contents

theorem execute {code : Byte} {decision : Block → State → State} (h : ∀ copy u, KeepsOverrun u (decision copy u)) (s : State) :
    KeepsOverrun s (s.execute code decision) := by
  obtain same | overrun | taken := execute_cases s code decision
  · rw [same]
    exact of_si rfl
  · rw [overrun]
    exact fun _ => rfl
  · rw [taken]
    exact fun set => h _ s.startCommand set

theorem checkNotBoot (h : KeepsOverrun s t) : KeepsOverrun s (s.checkNotBoot t) := by
  unfold State.checkNotBoot
  split
  · exact refusal s _ _
  · exact h

theorem checkInService (h : KeepsOverrun s t) : KeepsOverrun s (s.checkInService t) := by
  unfold State.checkInService
  split
  · exact h
  · exact refusal s _ _

theorem checkEdit (h : KeepsOverrun s t) : KeepsOverrun s (s.checkEdit t) := by
  unfold State.checkEdit
  repeat' split
  · exact refusal s _ _
  · exact refusal s _ _
  · exact refusal s _ _
  · exact h

/-- A decision that ends in a response to a state whose Supervisor Interface is as it was. -/
theorem responds {r : Result} {contents : List Byte} (h : t.si = s.si) : KeepsOverrun s (t.respond r contents) := (of_si h).respond r contents

/-! #### The commands -/

theorem decideSetZone (copy : Block) (s : State) : KeepsOverrun s (decideSetZone copy s) := by
  refine checkEdit ?_
  split
  · exact responds rfl
  · exact refusal s _ _

theorem decideSetClient (copy : Block) (s : State) : KeepsOverrun s (decideSetClient copy s) := by
  refine checkEdit ?_
  split
  · split
    · exact refusal s _ _
    · exact responds rfl
  · exact refusal s _ _

theorem decideSetParameters (copy : Block) (s : State) : KeepsOverrun s (decideSetParameters copy s) := by
  refine checkEdit ?_
  split
  · exact responds rfl
  · exact refusal s _ _

theorem decideClearCatalogue (copy : Block) (s : State) : KeepsOverrun s (decideClearCatalogue copy s) := checkEdit (responds rfl)

theorem decideFreeze (copy : Block) (s : State) : KeepsOverrun s (decideFreeze copy s) := checkNotBoot (responds rfl)

theorem decideFetchAttention (copy : Block) (s : State) : KeepsOverrun s (decideFetchAttention copy s) := checkNotBoot (responds rfl)

theorem decideRevert (copy : Block) (s : State) : KeepsOverrun s (decideRevert copy s) := by
  refine checkEdit ?_
  split
  · exact refusal s _ _
  · split
    all_goals exact responds rfl

theorem decideCommit (nvwe : Bool) (copy : Block) (s : State) : KeepsOverrun s (decideCommit nvwe copy s) := by
  refine checkEdit ?_
  split
  · exact refusal s _ _
  · split
    · exact refusal s _ _
    · exact of_si (beginCommit_si s)

theorem decideCloseZone (copy : Block) (s : State) : KeepsOverrun s (decideCloseZone copy s) := by
  refine checkInService ?_
  split
  · exact responds rfl
  · exact refusal s _ _

theorem decideOpenZone (copy : Block) (s : State) : KeepsOverrun s (decideOpenZone copy s) := by
  refine checkInService ?_
  split
  · split
    · exact responds (requestScan_si _)
    · exact refusal s _ _
  · exact refusal s _ _

theorem decideClearFence (copy : Block) (s : State) : KeepsOverrun s (decideClearFence copy s) := by
  refine checkInService ?_
  split
  · split
    · exact refusal s _ _
    · exact responds (requestScan_si _)
  · exact refusal s _ _

theorem decideRevokeBundle (copy : Block) (s : State) : KeepsOverrun s (decideRevokeBundle copy s) := by
  refine checkInService ?_
  split
  · split
    · exact responds ((requestScan_si _).trans ((postNotice_tables _ _ _).si.trans (endBundle_tables _ _ _).si))
    · exact refusal s _ _
  · exact refusal s _ _

theorem decideWithdrawRequest (copy : Block) (s : State) : KeepsOverrun s (decideWithdrawRequest copy s) := by
  refine checkInService ?_
  split
  · split
    · exact responds ((requestScan_si _).trans (postNotice_tables (s.removeEntry _) _ _).si)
    · exact refusal s _ _
  · exact refusal s _ _

theorem decideBarClient (copy : Block) (s : State) : KeepsOverrun s (decideBarClient copy s) := by
  refine checkNotBoot ?_
  split
  · split
    · exact refusal s _ _
    · split
      · exact refusal s _ _
      · exact responds (barClient_si s _ _)
  · exact refusal s _ _

theorem decideUnbarClient (copy : Block) (s : State) : KeepsOverrun s (decideUnbarClient copy s) := by
  refine checkNotBoot ?_
  split
  · split
    · exact refusal s _ _
    · split
      · exact responds rfl
      · exact refusal s _ _
  · exact refusal s _ _

/-- A read of the tables answers, and changes nothing. -/
theorem decideReadZoneRecord (copy : Block) (s : State) : KeepsOverrun s (decideReadZoneRecord copy s) := by
  refine checkNotBoot ?_
  split
  all_goals exact refusal s _ _

theorem decideReadClientRecord (copy : Block) (s : State) : KeepsOverrun s (decideReadClientRecord copy s) := by
  refine checkNotBoot ?_
  split
  all_goals exact refusal s _ _

theorem decideReadZoneState (copy : Block) (s : State) : KeepsOverrun s (decideReadZoneState copy s) := by
  refine checkNotBoot ?_
  split
  all_goals exact refusal s _ _

theorem decideReadBundle (copy : Block) (s : State) : KeepsOverrun s (decideReadBundle copy s) := by
  refine checkNotBoot ?_
  split
  · split
    all_goals exact refusal s _ _
  · exact refusal s _ _

theorem decideReadPending (copy : Block) (s : State) : KeepsOverrun s (decideReadPending copy s) := by
  refine checkNotBoot ?_
  dsimp only
  split
  · exact refusal s _ _
  · split
    all_goals exact refusal s _ _

theorem decideReadClientState (copy : Block) (s : State) : KeepsOverrun s (decideReadClientState copy s) := by
  refine checkNotBoot ?_
  split
  · split
    all_goals exact refusal s _ _
  · exact refusal s _ _

theorem decideStart (copy : Block) (s : State) : KeepsOverrun s (decideStart copy s) := by
  unfold Machine.decideStart
  split
  · exact refusal s _ _
  · split
    · exact refusal s _ _
    · split
      · exact refusal s _ _
      · exact responds rfl

theorem decideStop (copy : Block) (s : State) : KeepsOverrun s (decideStop copy s) := by
  unfold Machine.decideStop
  split
  · exact refusal s _ _
  · split
    · exact refusal s _ _
    · exact responds rfl

end KeepsOverrun

/-! ### Every row but resets and reads -/

/-- The rows that may clear the overrun flag: the resets and the reads of the port (R149). -/
abbrev MayClear (i : Instr) : Prop := (i = .powerOnReset ∨ i = .lineReset ∨ i = .restart) ∨ ∃ r ∈ readRows, i = r.1

/-- A row that is neither a reset nor a read leaves the overrun flag set. -/
theorem exec_keepsOverrun {i : Instr} (other : ¬ MayClear i) (s : State) : ∃ t, exec i s = .next t ∧ KeepsOverrun s t := by
  have same : ∀ {t : State}, t.si = s.si → KeepsOverrun s t := KeepsOverrun.of_si
  cases i with
  | powerOnReset => exact absurd (.inl (.inl rfl)) other
  | lineReset => exact absurd (.inl (.inr (.inl rfl))) other
  | restart => exact absurd (.inl (.inr (.inr rfl))) other
  | readStatus1 => exact absurd (.inr ⟨(.readStatus1, 0x01#7), by simp, rfl⟩) other
  | readLeaseClockLatch => exact absurd (.inr ⟨(.readLeaseClockLatch, 0x04#7), by simp, rfl⟩) other
  | readResultByte => exact absurd (.inr ⟨(.readResultByte, 0x2A#7), by simp, rfl⟩) other
  | rstReleased => exact ⟨_, rfl, same rfl⟩
  | catalogueLoad =>
    show ∃ t, execCatalogueLoad s = .next t ∧ _
    unfold execCatalogueLoad
    split
    · refine ⟨_, rfl, same ?_⟩
      rw [loadCatalogue_eq]
      exact (endBoot_ended _ _).si
    · exact ⟨_, rfl, same rfl⟩
  | tick =>
    show ∃ t, execTick s = .next t ∧ _
    unfold execTick
    split
    all_goals exact ⟨_, rfl, same rfl⟩
  | lapse =>
    show ∃ t, execLapse s = .next t ∧ _
    unfold execLapse
    split
    · split
      · exact ⟨_, rfl, same (lapseBundle_tables s _).si⟩
      · exact ⟨_, rfl, same rfl⟩
    · exact ⟨_, rfl, same rfl⟩
  | waitAlarmExamination =>
    show ∃ t, execWaitAlarmExamination s = .next t ∧ _
    unfold execWaitAlarmExamination
    split
    · exact ⟨_, rfl, same (examineWaits_si s)⟩
    · exact ⟨_, rfl, same rfl⟩
  | stopinAsserted => exact ⟨_, rfl, same (setLine_si s true)⟩
  | stopinDeasserted => exact ⟨_, rfl, same (setLine_si s false)⟩
  | characterReceived mark data =>
    show ∃ t, execCharacterReceived mark data s = .next t ∧ _
    unfold execCharacterReceived
    split
    · exact ⟨_, rfl, same (takeReports_si _ _)⟩
    · exact ⟨_, rfl, same rfl⟩
  | framingError =>
    show ∃ t, execFramingError s = .next t ∧ _
    unfold execFramingError
    split
    · exact ⟨_, rfl, same (abandonFrame_si _ _ _)⟩
    · exact ⟨_, rfl, same rfl⟩
  | gapLimitExpiry =>
    show ∃ t, execGapLimitExpiry s = .next t ∧ _
    unfold execGapLimitExpiry
    split
    · exact ⟨_, rfl, same (abandonFrame_si s _ _)⟩
    · exact ⟨_, rfl, same rfl⟩
  | lineReturnsTo1 =>
    show ∃ t, execLineReturnsTo1 s = .next t ∧ _
    unfold execLineReturnsTo1
    split
    all_goals exact ⟨_, rfl, same rfl⟩
  | beginExchange =>
    show ∃ t, execBeginExchange s = .next t ∧ _
    unfold execBeginExchange
    split
    · split
      · exact ⟨_, rfl, same (abandonFrame_si { s with es := s.afterChoice _ } _ _)⟩
      · exact ⟨_, rfl, same rfl⟩
    · exact ⟨_, rfl, same rfl⟩
  | transmitDone =>
    show ∃ t, execTransmitDone s = .next t ∧ _
    unfold execTransmitDone
    split
    · exact ⟨_, rfl, same (endTransmission_si s)⟩
    · exact ⟨_, rfl, same rfl⟩
  | replyWindowTimeout =>
    show ∃ t, execReplyWindowTimeout s = .next t ∧ _
    unfold execReplyWindowTimeout
    split
    · exact ⟨_, rfl, same (failExchange_si s _)⟩
    all_goals exact ⟨_, rfl, same rfl⟩
  | sendAnswer =>
    show ∃ t, execSendAnswer s = .next t ∧ _
    unfold execSendAnswer
    split
    · split
      · exact ⟨_, rfl, same (abandonFrame_si s _ _)⟩
      · exact ⟨_, rfl, same rfl⟩
    all_goals exact ⟨_, rfl, same rfl⟩
  | idle | malformedRequest | join | leave | acquire | cancel | renew | release | status => exact ⟨_, rfl, same (deliverReply_si s _)⟩
  | setZone => exact ⟨_, rfl, .execute KeepsOverrun.decideSetZone s⟩
  | setClient => exact ⟨_, rfl, .execute KeepsOverrun.decideSetClient s⟩
  | setParameters => exact ⟨_, rfl, .execute KeepsOverrun.decideSetParameters s⟩
  | clearCatalogue => exact ⟨_, rfl, .execute KeepsOverrun.decideClearCatalogue s⟩
  | revert => exact ⟨_, rfl, .execute KeepsOverrun.decideRevert s⟩
  | readZoneRecord => exact ⟨_, rfl, .execute KeepsOverrun.decideReadZoneRecord s⟩
  | readClientRecord => exact ⟨_, rfl, .execute KeepsOverrun.decideReadClientRecord s⟩
  | readParameters => exact ⟨_, rfl, .execute (fun _ u => .checkNotBoot (.refusal u _ _)) s⟩
  | freeze => exact ⟨_, rfl, .execute KeepsOverrun.decideFreeze s⟩
  | closeZone => exact ⟨_, rfl, .execute KeepsOverrun.decideCloseZone s⟩
  | openZone => exact ⟨_, rfl, .execute KeepsOverrun.decideOpenZone s⟩
  | clearFence => exact ⟨_, rfl, .execute KeepsOverrun.decideClearFence s⟩
  | revokeBundle => exact ⟨_, rfl, .execute KeepsOverrun.decideRevokeBundle s⟩
  | readZoneState => exact ⟨_, rfl, .execute KeepsOverrun.decideReadZoneState s⟩
  | readBundle => exact ⟨_, rfl, .execute KeepsOverrun.decideReadBundle s⟩
  | withdrawRequest => exact ⟨_, rfl, .execute KeepsOverrun.decideWithdrawRequest s⟩
  | readPending => exact ⟨_, rfl, .execute KeepsOverrun.decideReadPending s⟩
  | readLeaseClock => exact ⟨_, rfl, .execute (fun _ u => .checkNotBoot (.refusal u _ _)) s⟩
  | barClient => exact ⟨_, rfl, .execute KeepsOverrun.decideBarClient s⟩
  | unbarClient => exact ⟨_, rfl, .execute KeepsOverrun.decideUnbarClient s⟩
  | readClientState => exact ⟨_, rfl, .execute KeepsOverrun.decideReadClientState s⟩
  | fetchAttention => exact ⟨_, rfl, .execute KeepsOverrun.decideFetchAttention s⟩
  | start => exact ⟨_, rfl, .execute KeepsOverrun.decideStart s⟩
  | stop => exact ⟨_, rfl, .execute KeepsOverrun.decideStop s⟩
  | hold => exact ⟨_, rfl, .execute (fun _ u => .checkInService (.responds (setCommand_si u true))) s⟩
  | resume => exact ⟨_, rfl, .execute (fun _ u => .checkInService (.responds (setCommand_si u false))) s⟩
  | commit nvwe => exact ⟨_, rfl, .execute (KeepsOverrun.decideCommit nvwe) s⟩
  | commitErasePageDone readBack =>
    show ∃ t, execCommitErasePageDone readBack s = .next t ∧ _
    unfold execCommitErasePageDone
    split
    · split
      · refine ⟨_, rfl, ?_⟩
        unfold State.eraseDone
        dsimp only
        repeat' split
        · exact same rfl
        · exact same rfl
        · exact same rfl
        · exact .responds rfl
      · exact ⟨_, rfl, same rfl⟩
    · exact ⟨_, rfl, same rfl⟩
  | commitProgramPageDone readBack =>
    show ∃ t, execCommitProgramPageDone readBack s = .next t ∧ _
    unfold execCommitProgramPageDone
    split
    · split
      · refine ⟨_, rfl, ?_⟩
        unfold State.programDone
        dsimp only
        repeat' split
        · exact same rfl
        · exact same rfl
        · exact .responds rfl
      · exact ⟨_, rfl, same rfl⟩
    · exact ⟨_, rfl, same rfl⟩
  | commitMarkGenerationDone readBack =>
    show ∃ t, execCommitMarkGenerationDone readBack s = .next t ∧ _
    unfold execCommitMarkGenerationDone
    split
    · split
      · refine ⟨_, rfl, ?_⟩
        unfold State.generationDone
        dsimp only
        split
        · exact same rfl
        · exact .responds rfl
      · exact ⟨_, rfl, same rfl⟩
    · exact ⟨_, rfl, same rfl⟩
  | commitMarkMarkerDone readBack =>
    show ∃ t, execCommitMarkMarkerDone readBack s = .next t ∧ _
    unfold execCommitMarkMarkerDone
    split
    · split
      · refine ⟨_, rfl, ?_⟩
        unfold State.markerDone
        dsimp only
        split
        · exact .responds rfl
        · exact .responds rfl
      · exact ⟨_, rfl, same rfl⟩
    · exact ⟨_, rfl, same rfl⟩
  | nvweInactive =>
    show ∃ t, execNvweInactive s = .next t ∧ _
    unfold execNvweInactive
    split
    · exact ⟨_, rfl, .responds (stopOperation_si s)⟩
    · exact ⟨_, rfl, same rfl⟩
  | badCommand =>
    show ∃ t, execBadCommand s = .next t ∧ _
    unfold execBadCommand
    split
    · split
      · exact ⟨_, rfl, fun _ => rfl⟩
      · split
        · exact ⟨_, rfl, same rfl⟩
        · exact ⟨_, rfl, fun set => KeepsOverrun.refusal s.startCommand _ _ set⟩
    · exact ⟨_, rfl, same rfl⟩
  | executeOverrun =>
    show ∃ t, execExecuteOverrun s = .next t ∧ _
    unfold execExecuteOverrun
    split
    · exact ⟨_, rfl, fun _ => rfl⟩
    · exact ⟨_, rfl, same rfl⟩
  | publishResponse => exact ⟨_, rfl, .publish (same rfl)⟩
  | writeAlertEnable value =>
    show ∃ t, execWriteAlertEnable value s = .next t ∧ _
    unfold execWriteAlertEnable
    split
    · exact ⟨_, rfl, fun set => set⟩
    · exact ⟨_, rfl, same rfl⟩
  | writeRegister value =>
    show ∃ t, execWriteRegister value s = .next t ∧ _
    unfold execWriteRegister
    split
    · split
      · exact ⟨_, rfl, same rfl⟩
      · split
        · exact ⟨_, rfl, fun set => set⟩
        · exact ⟨_, rfl, fun set => set⟩
    all_goals exact ⟨_, rfl, same rfl⟩
  | transactionBegin first =>
    have published : KeepsOverrun s s.publish := .publish (same rfl)
    show ∃ t, execTransactionBegin first s = .next t ∧ _
    unfold execTransactionBegin
    split
    · split
      · exact ⟨_, rfl, fun set => published set⟩
      · exact ⟨_, rfl, fun set => published set⟩
    · exact ⟨_, rfl, same rfl⟩
  | transactionEnd =>
    show ∃ t, execTransactionEnd s = .next t ∧ _
    unfold execTransactionEnd
    split
    · exact ⟨_, rfl, same rfl⟩
    · exact ⟨_, rfl, .publish fun set => set⟩

/-! ### What the reads clear -/

/-- A read that does not come past 01H leaves the overrun flag. -/
theorem iterate_byteRead_overrun (n : Nat) : ∀ {s : State} {a : PortAddress}, s.si.port = .reading a →
    (∀ k < n, a + BitVec.ofNat 7 k ≠ 0x01#7) → (byteRead^[n] s).si.overrun = s.si.overrun := by
  induction n with
  | zero => exact fun _ _ => rfl
  | succ n ih =>
    intro s a reading apart
    have here : a ≠ 0x01#7 := by simpa using apart 0 (Nat.succ_pos n)
    have next : (byteRead s).si.port = .reading (a + 1#7) := by rw [byteRead_reading reading]
    have later : ∀ k < n, a + 1#7 + BitVec.ofNat 7 k ≠ 0x01#7 := fun k hk => by
      have step : a + 1#7 + BitVec.ofNat 7 k = a + BitVec.ofNat 7 (k + 1) := by
        rw [BitVec.add_assoc, ← BitVec.ofNat_add, Nat.add_comm 1 k]
      rw [step]
      exact apart (k + 1) (Nat.succ_lt_succ hk)
    rw [Function.iterate_succ_apply, ih next later, byteRead_reading reading]
    exact if_neg here

/-- A read that clears the overrun flag has read the byte at 01H. -/
theorem read_clears_overrun {s : State} {a target : PortAddress} (reading : s.si.port = .reading a) (set : s.si.overrun = true)
    (clear : (s.readThrough target).si.overrun = false) : (0x01#7 - a).toNat ≤ (target - a).toNat := by
  by_contra before
  have apart : ∀ k < (target - a).toNat + 1, a + BitVec.ofNat 7 k ≠ 0x01#7 := fun k hk same => by
    have distance : 0x01#7 - a = BitVec.ofNat 7 k := by rw [← same, BitVec.add_comm, BitVec.add_sub_cancel]
    have place : (0x01#7 - a).toNat ≤ k := by
      rw [distance, BitVec.toNat_ofNat]
      exact Nat.mod_le k _
    omega
  rw [readThrough_reading reading, iterate_byteRead_overrun _ reading apart, set] at clear
  exact Bool.noConfusion clear

/-! ### What the resets clear -/

theorem startChoiceOfByte_some {b : Byte} (h : b.toNat < 2) : ∃ choice, startChoiceOfByte b = some choice := by
  obtain rfl | rfl := byte_of_lt_two h
  · exact ⟨.auto, by decide⟩
  · exact ⟨.config, by decide⟩

theorem decideRestart_cases (copy : Block) (s : State) : KeepsOverrun s (decideRestart copy s) ∨ ResetValues (decideRestart copy s) := by
  unfold decideRestart State.checkNotBoot
  split
  · exact .inl (.refusal s _ _)
  · split
    · exact .inr (takeReset_values s _ _ _)
    · exact .inl (.refusal s _ _)

/-- A reset row that clears the overrun flag has taken the reset. -/
theorem reset_clears_overrun {i : Instr} {s t : State} (reset : i = .powerOnReset ∨ i = .lineReset ∨ i = .restart) (run : exec i s = .next t)
    (set : s.si.overrun = true) (clear : t.si.overrun = false) : ResetValues t := by
  have keeps : ¬ KeepsOverrun s t := fun keeps => by rw [keeps set] at clear; exact Bool.noConfusion clear
  obtain rfl | rfl | rfl := reset
  · obtain rfl := Host.Outcome.next.inj run
    exact takeReset_values s _ _ _
  · have run : execLineReset s = .next t := run
    unfold execLineReset at run
    split at run
    · obtain rfl := Host.Outcome.next.inj run
      exact absurd (.of_si rfl) keeps
    · obtain rfl := Host.Outcome.next.inj run
      exact resetValues_rst (takeReset_values s _ _ _) true
  · obtain rfl := Host.Outcome.next.inj run
    obtain same | overrun | taken := execute_cases s 0x44#8 decideRestart
    · exact absurd (by rw [same]; exact .of_si rfl) keeps
    · exact absurd (by rw [overrun]; exact fun _ => rfl) keeps
    · rw [taken] at keeps ⊢
      obtain kept | values := decideRestart_cases s.si.commandBlock s.startCommand
      · exact absurd (fun set => kept set) keeps
      · exact values

/-! ### The refused writes -/

theorem exec_busy {s : State} {row : Instr} {code : Byte} {decision : Block → State → State} (command : IsCommand row code decision)
    (port : s.si.port = .writing 0x29#7) (full : busy s = true) : exec row s = .next s.overrunWrite := by
  rw [command s, execute_overrun s port full]

theorem executeRows_busy {s : State} (port : s.si.port = .writing 0x29#7) (full : busy s = true) :
    ∀ row ∈ executeRows, exec row s = .next s.overrunWrite := by
  intro row mem
  obtain named | last := List.mem_append.1 mem
  · obtain ⟨r, rows, rfl⟩ := List.mem_map.1 named
    obtain rows | running := List.mem_append.1 rows
    · obtain config | service := List.mem_append.1 rows
      · obtain ⟨decision, rule, command, -⟩ := configRows_commands r config
        exact exec_busy command port full
      · obtain ⟨decision, rule, command, -⟩ := serviceRows_commands r service
        exact exec_busy command port full
    · obtain ⟨decision, rule, command, -⟩ := runningRows_commands r running
      exact exec_busy command port full
  · have here : s.atExecute = true := by simp [State.atExecute, port]
    have both : (s.atExecute && s.mailboxBusy) = true := Bool.and_eq_true_iff.2 ⟨here, full⟩
    simp only [List.mem_cons, List.not_mem_nil, or_false] at last
    obtain rfl | rfl | rfl | rfl := last
    · exact exec_busy (fun _ => rfl) port full
    · exact exec_busy (fun _ => rfl) port full
    · exact (if_pos here).trans (if_pos full)
    · exact if_pos both

/-- Settles O54, from the rows that keep the flag and what resets and reads clear. -/
theorem overrunIsFlaggedUntilRead : Obligations.OverrunIsFlaggedUntilRead := by
  unfold Obligations.OverrunIsFlaggedUntilRead
  intro s
  refine ⟨fun row mem port full => executeRows_busy port full row mem, fun copy r mailbox => ?ends, fun reading => ?read,
    fun i t run set clear => ?only, ⟨_, rfl, (takeReset_values s _ _ _).window.2.1⟩, fun released => ?line, fun ready mode small => ?restart⟩
  case ends =>
    rw [exec_transactionEnd (s := { s with si := { s.si with overrun := true, port := .writing 0x2A#7 } }) Port.noConfusion,
      publish_of_decided (s := { s with si := { s.si with overrun := true, port := .inactive, sdo := none } }) mailbox rfl]
    exact ⟨_, rfl, rfl, rfl⟩
  case read =>
    refine ⟨s.windowByte 0x01#7, ?_, ?_⟩
    · rw [readRows_read (.readStatus1, 0x01#7) (by simp), readThrough_here reading, byteRead_reading reading]
      simp
    · have bits : ∀ (overflow overrun dirty freeze : Bool) (commit mailbox : BitVec 2), (BitVec.ofBool overflow ++ BitVec.ofBool overrun ++
          BitVec.ofBool dirty ++ BitVec.ofBool freeze ++ commit ++ mailbox).getLsbD 6 = overrun := by decide
      rw [(windowShows s).status1]
      exact bits _ _ _ _ _ _
  case only =>
    by_cases mayClear : MayClear i
    · obtain reset | ⟨r, row, rfl⟩ := mayClear
      · exact .inl ⟨reset, reset_clears_overrun reset run set clear⟩
      · rw [readRows_read r row] at run
        obtain rfl := Host.Outcome.next.inj run
        refine .inr ⟨r, row, rfl, ?_⟩
        by_cases reading : ∃ a, s.si.port = .reading a
        · obtain ⟨a, reading⟩ := reading
          exact ⟨a, reading, read_clears_overrun reading set clear⟩
        · rw [readThrough_other fun a h => reading ⟨a, h⟩, set] at clear
          exact Bool.noConfusion clear
    · obtain ⟨u, ran, keeps⟩ := exec_keepsOverrun mayClear s
      obtain rfl := Host.Outcome.next.inj (ran.symm.trans run)
      rw [keeps set] at clear
      exact Bool.noConfusion clear
  case line => exact ⟨_, if_neg (by rw [released]; decide), rfl⟩
  case restart =>
    obtain ⟨choice, code⟩ := startChoiceOfByte_some small
    refine ⟨_, exec_running rfl (fun _ _ => rfl) ready mode rfl, ?_⟩
    rw [show startChoiceOfByte (blockArg s.si.commandBlock 0) = some choice from code]
    exact (takeReset_values (taken s) _ _ _).window.2.1

end Sys2Proof.Machine
